-- ==== Sys2Proof/Word.lean ====
section
/-!
DEFINITION. The two word types of the machine (00_scope.md R6: `W8` = 8, `W16` = 16) and the
plainest arithmetic on them. A byte is the content of a register cell or of one memory location; a
word is SP, PC, a register pair or an address. All arithmetic on them wraps, which is the masking
of R7, R63 and R180.
-/

namespace Sys2Proof

/-- An 8-bit register cell or memory byte (10_state.md R20, R41). -/
abbrev Byte := BitVec 8

/-- A 16-bit pair, SP, PC or address (10_state.md R21, R23, R24; 20_memory.md R62). -/
abbrev Word := BitVec 16

end Sys2Proof
end

