-- ==== Sys2Proof/Syntax.lean ====
section
/-!
DEFINITION. The syntax: one constructor of `Instr` for each of the 512 rows of
spec/opcode_table.json (30_encoding.md R119), the rows with an immediate first and then the rest, each
in the table's order, named as the row's mnemonic
(an operand in parentheses has an `m` before it: `ld_mhl_b` is `LD (HL),B`; `mhli` is `(HL+)`, `mhld`
is `(HL-)`). An immediate is the constructor's argument. After it the operand fields of R108 to R111
and, for every family of rows that differ in such a field only, the function from the field's
values to the row (`Instr.ld8 .b .c` is the row `LD B,C`): the statements about a family are written
with these.
-/

namespace Sys2Proof

/-- The 3-bit register field of R108, without the value 6, which is the byte at address HL. -/
inductive Reg8 where
  | b | c | d | e | h | l | a
deriving DecidableEq, Repr

/-- The `rp` column of R109. -/
inductive Pair where
  | bc | de | hl | sp
deriving DecidableEq, Repr

/-- The `rp2` column of R109 (PUSH, POP). -/
inductive StackPair where
  | bc | de | hl | af
deriving DecidableEq, Repr

/-- The condition field of R110. -/
inductive Cond where
  | nz | z | nc | c
deriving DecidableEq, Repr

/-- The operation field of R111 for the accumulator operations. -/
inductive AluOp where
  | add | adc | sub | sbc | and | xor | or | cp
deriving DecidableEq, Repr

/-- The operation field of R111 for the prefixed rotates and shifts. -/
inductive RotOp where
  | rlc | rrc | rl | rr | sla | sra | swap | srl
deriving DecidableEq, Repr

/-- The eleven opcode bytes with no table entry (R114). -/
inductive Unmapped where
  | xd3 | xdb | xdd | xe3 | xe4 | xeb | xec | xed | xf4 | xfc | xfd
deriving DecidableEq, Repr

/-- One row of spec/opcode_table.json each (R112, R113, R119). -/
inductive Instr where
  | ld_bc_n16 (n : Word)  -- LD BC,n16, R162
  | ld_b_n8 (n : Byte)  -- LD B,n8, R141
  | ld_ma16_sp (a : Word)  -- LD (a16),SP, R163
  | ld_c_n8 (n : Byte)  -- LD C,n8, R141
  | stop_n8 (n : Byte)  -- STOP n8, R282
  | ld_de_n16 (n : Word)  -- LD DE,n16, R162
  | ld_d_n8 (n : Byte)  -- LD D,n8, R141
  | jr_e8 (e : Byte)  -- JR e8, R264
  | ld_e_n8 (n : Byte)  -- LD E,n8, R141
  | jr_nz_e8 (e : Byte)  -- JR NZ,e8, R265
  | ld_hl_n16 (n : Word)  -- LD HL,n16, R162
  | ld_h_n8 (n : Byte)  -- LD H,n8, R141
  | jr_z_e8 (e : Byte)  -- JR Z,e8, R265
  | ld_l_n8 (n : Byte)  -- LD L,n8, R141
  | jr_nc_e8 (e : Byte)  -- JR NC,e8, R265
  | ld_sp_n16 (n : Word)  -- LD SP,n16, R162
  | ld_mhl_n8 (n : Byte)  -- LD (HL),n8, R144
  | jr_c_e8 (e : Byte)  -- JR C,e8, R265
  | ld_a_n8 (n : Byte)  -- LD A,n8, R141
  | jp_nz_a16 (a : Word)  -- JP NZ,a16, R262
  | jp_a16 (a : Word)  -- JP a16, R261
  | call_nz_a16 (a : Word)  -- CALL NZ,a16, R267
  | add_a_n8 (n : Byte)  -- ADD A,n8, R191
  | jp_z_a16 (a : Word)  -- JP Z,a16, R262
  | call_z_a16 (a : Word)  -- CALL Z,a16, R267
  | call_a16 (a : Word)  -- CALL a16, R266
  | adc_a_n8 (n : Byte)  -- ADC A,n8, R194
  | jp_nc_a16 (a : Word)  -- JP NC,a16, R262
  | call_nc_a16 (a : Word)  -- CALL NC,a16, R267
  | sub_a_n8 (n : Byte)  -- SUB A,n8, R197
  | jp_c_a16 (a : Word)  -- JP C,a16, R262
  | call_c_a16 (a : Word)  -- CALL C,a16, R267
  | sbc_a_n8 (n : Byte)  -- SBC A,n8, R200
  | ldh_ma8_a (n : Byte)  -- LDH (a8),A, R154
  | and_a_n8 (n : Byte)  -- AND A,n8, R203
  | add_sp_e8 (e : Byte)  -- ADD SP,e8, R228
  | ld_ma16_a (a : Word)  -- LD (a16),A, R150
  | xor_a_n8 (n : Byte)  -- XOR A,n8, R206
  | ldh_a_ma8 (n : Byte)  -- LDH A,(a8), R153
  | or_a_n8 (n : Byte)  -- OR A,n8, R209
  | ld_hl_sp_e8 (e : Byte)  -- LD HL,SP+e8, R165
  | ld_a_ma16 (a : Word)  -- LD A,(a16), R149
  | cp_a_n8 (n : Byte)  -- CP A,n8, R212
  | nop  -- NOP, R280
  | ld_mbc_a  -- LD (BC),A, R147
  | inc_bc  -- INC BC, R226
  | inc_b  -- INC B, R213
  | dec_b  -- DEC B, R215
  | rlca  -- RLCA, R231
  | add_hl_bc  -- ADD HL,BC, R225
  | ld_a_mbc  -- LD A,(BC), R145
  | dec_bc  -- DEC BC, R227
  | inc_c  -- INC C, R213
  | dec_c  -- DEC C, R215
  | rrca  -- RRCA, R232
  | ld_mde_a  -- LD (DE),A, R148
  | inc_de  -- INC DE, R226
  | inc_d  -- INC D, R213
  | dec_d  -- DEC D, R215
  | rla  -- RLA, R233
  | add_hl_de  -- ADD HL,DE, R225
  | ld_a_mde  -- LD A,(DE), R146
  | dec_de  -- DEC DE, R227
  | inc_e  -- INC E, R213
  | dec_e  -- DEC E, R215
  | rra  -- RRA, R234
  | ld_mhli_a  -- LD (HL+),A, R157
  | inc_hl  -- INC HL, R226
  | inc_h  -- INC H, R213
  | dec_h  -- DEC H, R215
  | daa  -- DAA, R217
  | add_hl_hl  -- ADD HL,HL, R225
  | ld_a_mhli  -- LD A,(HL+), R155
  | dec_hl  -- DEC HL, R227
  | inc_l  -- INC L, R213
  | dec_l  -- DEC L, R215
  | cpl  -- CPL, R218
  | ld_mhld_a  -- LD (HL-),A, R158
  | inc_sp  -- INC SP, R226
  | inc_mhl  -- INC (HL), R214
  | dec_mhl  -- DEC (HL), R216
  | scf  -- SCF, R219
  | add_hl_sp  -- ADD HL,SP, R225
  | ld_a_mhld  -- LD A,(HL-), R156
  | dec_sp  -- DEC SP, R227
  | inc_a  -- INC A, R213
  | dec_a  -- DEC A, R215
  | ccf  -- CCF, R220
  | ld_b_b  -- LD B,B, R140
  | ld_b_c  -- LD B,C, R140
  | ld_b_d  -- LD B,D, R140
  | ld_b_e  -- LD B,E, R140
  | ld_b_h  -- LD B,H, R140
  | ld_b_l  -- LD B,L, R140
  | ld_b_mhl  -- LD B,(HL), R142
  | ld_b_a  -- LD B,A, R140
  | ld_c_b  -- LD C,B, R140
  | ld_c_c  -- LD C,C, R140
  | ld_c_d  -- LD C,D, R140
  | ld_c_e  -- LD C,E, R140
  | ld_c_h  -- LD C,H, R140
  | ld_c_l  -- LD C,L, R140
  | ld_c_mhl  -- LD C,(HL), R142
  | ld_c_a  -- LD C,A, R140
  | ld_d_b  -- LD D,B, R140
  | ld_d_c  -- LD D,C, R140
  | ld_d_d  -- LD D,D, R140
  | ld_d_e  -- LD D,E, R140
  | ld_d_h  -- LD D,H, R140
  | ld_d_l  -- LD D,L, R140
  | ld_d_mhl  -- LD D,(HL), R142
  | ld_d_a  -- LD D,A, R140
  | ld_e_b  -- LD E,B, R140
  | ld_e_c  -- LD E,C, R140
  | ld_e_d  -- LD E,D, R140
  | ld_e_e  -- LD E,E, R140
  | ld_e_h  -- LD E,H, R140
  | ld_e_l  -- LD E,L, R140
  | ld_e_mhl  -- LD E,(HL), R142
  | ld_e_a  -- LD E,A, R140
  | ld_h_b  -- LD H,B, R140
  | ld_h_c  -- LD H,C, R140
  | ld_h_d  -- LD H,D, R140
  | ld_h_e  -- LD H,E, R140
  | ld_h_h  -- LD H,H, R140
  | ld_h_l  -- LD H,L, R140
  | ld_h_mhl  -- LD H,(HL), R142
  | ld_h_a  -- LD H,A, R140
  | ld_l_b  -- LD L,B, R140
  | ld_l_c  -- LD L,C, R140
  | ld_l_d  -- LD L,D, R140
  | ld_l_e  -- LD L,E, R140
  | ld_l_h  -- LD L,H, R140
  | ld_l_l  -- LD L,L, R140
  | ld_l_mhl  -- LD L,(HL), R142
  | ld_l_a  -- LD L,A, R140
  | ld_mhl_b  -- LD (HL),B, R143
  | ld_mhl_c  -- LD (HL),C, R143
  | ld_mhl_d  -- LD (HL),D, R143
  | ld_mhl_e  -- LD (HL),E, R143
  | ld_mhl_h  -- LD (HL),H, R143
  | ld_mhl_l  -- LD (HL),L, R143
  | halt  -- HALT, R281
  | ld_mhl_a  -- LD (HL),A, R143
  | ld_a_b  -- LD A,B, R140
  | ld_a_c  -- LD A,C, R140
  | ld_a_d  -- LD A,D, R140
  | ld_a_e  -- LD A,E, R140
  | ld_a_h  -- LD A,H, R140
  | ld_a_l  -- LD A,L, R140
  | ld_a_mhl  -- LD A,(HL), R142
  | ld_a_a  -- LD A,A, R140
  | add_a_b  -- ADD A,B, R189
  | add_a_c  -- ADD A,C, R189
  | add_a_d  -- ADD A,D, R189
  | add_a_e  -- ADD A,E, R189
  | add_a_h  -- ADD A,H, R189
  | add_a_l  -- ADD A,L, R189
  | add_a_mhl  -- ADD A,(HL), R190
  | add_a_a  -- ADD A,A, R189
  | adc_a_b  -- ADC A,B, R192
  | adc_a_c  -- ADC A,C, R192
  | adc_a_d  -- ADC A,D, R192
  | adc_a_e  -- ADC A,E, R192
  | adc_a_h  -- ADC A,H, R192
  | adc_a_l  -- ADC A,L, R192
  | adc_a_mhl  -- ADC A,(HL), R193
  | adc_a_a  -- ADC A,A, R192
  | sub_a_b  -- SUB A,B, R195
  | sub_a_c  -- SUB A,C, R195
  | sub_a_d  -- SUB A,D, R195
  | sub_a_e  -- SUB A,E, R195
  | sub_a_h  -- SUB A,H, R195
  | sub_a_l  -- SUB A,L, R195
  | sub_a_mhl  -- SUB A,(HL), R196
  | sub_a_a  -- SUB A,A, R195
  | sbc_a_b  -- SBC A,B, R198
  | sbc_a_c  -- SBC A,C, R198
  | sbc_a_d  -- SBC A,D, R198
  | sbc_a_e  -- SBC A,E, R198
  | sbc_a_h  -- SBC A,H, R198
  | sbc_a_l  -- SBC A,L, R198
  | sbc_a_mhl  -- SBC A,(HL), R199
  | sbc_a_a  -- SBC A,A, R198
  | and_a_b  -- AND A,B, R201
  | and_a_c  -- AND A,C, R201
  | and_a_d  -- AND A,D, R201
  | and_a_e  -- AND A,E, R201
  | and_a_h  -- AND A,H, R201
  | and_a_l  -- AND A,L, R201
  | and_a_mhl  -- AND A,(HL), R202
  | and_a_a  -- AND A,A, R201
  | xor_a_b  -- XOR A,B, R204
  | xor_a_c  -- XOR A,C, R204
  | xor_a_d  -- XOR A,D, R204
  | xor_a_e  -- XOR A,E, R204
  | xor_a_h  -- XOR A,H, R204
  | xor_a_l  -- XOR A,L, R204
  | xor_a_mhl  -- XOR A,(HL), R205
  | xor_a_a  -- XOR A,A, R204
  | or_a_b  -- OR A,B, R207
  | or_a_c  -- OR A,C, R207
  | or_a_d  -- OR A,D, R207
  | or_a_e  -- OR A,E, R207
  | or_a_h  -- OR A,H, R207
  | or_a_l  -- OR A,L, R207
  | or_a_mhl  -- OR A,(HL), R208
  | or_a_a  -- OR A,A, R207
  | cp_a_b  -- CP A,B, R210
  | cp_a_c  -- CP A,C, R210
  | cp_a_d  -- CP A,D, R210
  | cp_a_e  -- CP A,E, R210
  | cp_a_h  -- CP A,H, R210
  | cp_a_l  -- CP A,L, R210
  | cp_a_mhl  -- CP A,(HL), R211
  | cp_a_a  -- CP A,A, R210
  | ret_nz  -- RET NZ, R269
  | pop_bc  -- POP BC, R168
  | push_bc  -- PUSH BC, R166
  | rst_00  -- RST 0x00, R271
  | ret_z  -- RET Z, R269
  | ret  -- RET, R268
  | prefix_cb  -- PREFIX CB, R285
  | rst_08  -- RST 0x08, R271
  | ret_nc  -- RET NC, R269
  | pop_de  -- POP DE, R168
  | illegal_d3  -- ILLEGAL_D3, R286
  | push_de  -- PUSH DE, R166
  | rst_10  -- RST 0x10, R271
  | ret_c  -- RET C, R269
  | reti  -- RETI, R270
  | illegal_db  -- ILLEGAL_DB, R286
  | illegal_dd  -- ILLEGAL_DD, R286
  | rst_18  -- RST 0x18, R271
  | pop_hl  -- POP HL, R168
  | ldh_mc_a  -- LDH (C),A, R152
  | illegal_e3  -- ILLEGAL_E3, R286
  | illegal_e4  -- ILLEGAL_E4, R286
  | push_hl  -- PUSH HL, R166
  | rst_20  -- RST 0x20, R271
  | jp_hl  -- JP HL, R263
  | illegal_eb  -- ILLEGAL_EB, R286
  | illegal_ec  -- ILLEGAL_EC, R286
  | illegal_ed  -- ILLEGAL_ED, R286
  | rst_28  -- RST 0x28, R271
  | pop_af  -- POP AF, R169
  | ldh_a_mc  -- LDH A,(C), R151
  | di  -- DI, R283
  | illegal_f4  -- ILLEGAL_F4, R286
  | push_af  -- PUSH AF, R167
  | rst_30  -- RST 0x30, R271
  | ld_sp_hl  -- LD SP,HL, R164
  | ei  -- EI, R284
  | illegal_fc  -- ILLEGAL_FC, R286
  | illegal_fd  -- ILLEGAL_FD, R286
  | rst_38  -- RST 0x38, R271
  | rlc_b  -- RLC B, R235
  | rlc_c  -- RLC C, R235
  | rlc_d  -- RLC D, R235
  | rlc_e  -- RLC E, R235
  | rlc_h  -- RLC H, R235
  | rlc_l  -- RLC L, R235
  | rlc_mhl  -- RLC (HL), R236
  | rlc_a  -- RLC A, R235
  | rrc_b  -- RRC B, R237
  | rrc_c  -- RRC C, R237
  | rrc_d  -- RRC D, R237
  | rrc_e  -- RRC E, R237
  | rrc_h  -- RRC H, R237
  | rrc_l  -- RRC L, R237
  | rrc_mhl  -- RRC (HL), R238
  | rrc_a  -- RRC A, R237
  | rl_b  -- RL B, R239
  | rl_c  -- RL C, R239
  | rl_d  -- RL D, R239
  | rl_e  -- RL E, R239
  | rl_h  -- RL H, R239
  | rl_l  -- RL L, R239
  | rl_mhl  -- RL (HL), R240
  | rl_a  -- RL A, R239
  | rr_b  -- RR B, R241
  | rr_c  -- RR C, R241
  | rr_d  -- RR D, R241
  | rr_e  -- RR E, R241
  | rr_h  -- RR H, R241
  | rr_l  -- RR L, R241
  | rr_mhl  -- RR (HL), R242
  | rr_a  -- RR A, R241
  | sla_b  -- SLA B, R243
  | sla_c  -- SLA C, R243
  | sla_d  -- SLA D, R243
  | sla_e  -- SLA E, R243
  | sla_h  -- SLA H, R243
  | sla_l  -- SLA L, R243
  | sla_mhl  -- SLA (HL), R244
  | sla_a  -- SLA A, R243
  | sra_b  -- SRA B, R245
  | sra_c  -- SRA C, R245
  | sra_d  -- SRA D, R245
  | sra_e  -- SRA E, R245
  | sra_h  -- SRA H, R245
  | sra_l  -- SRA L, R245
  | sra_mhl  -- SRA (HL), R246
  | sra_a  -- SRA A, R245
  | swap_b  -- SWAP B, R247
  | swap_c  -- SWAP C, R247
  | swap_d  -- SWAP D, R247
  | swap_e  -- SWAP E, R247
  | swap_h  -- SWAP H, R247
  | swap_l  -- SWAP L, R247
  | swap_mhl  -- SWAP (HL), R248
  | swap_a  -- SWAP A, R247
  | srl_b  -- SRL B, R249
  | srl_c  -- SRL C, R249
  | srl_d  -- SRL D, R249
  | srl_e  -- SRL E, R249
  | srl_h  -- SRL H, R249
  | srl_l  -- SRL L, R249
  | srl_mhl  -- SRL (HL), R250
  | srl_a  -- SRL A, R249
  | bit_0_b  -- BIT 0,B, R251
  | bit_0_c  -- BIT 0,C, R251
  | bit_0_d  -- BIT 0,D, R251
  | bit_0_e  -- BIT 0,E, R251
  | bit_0_h  -- BIT 0,H, R251
  | bit_0_l  -- BIT 0,L, R251
  | bit_0_mhl  -- BIT 0,(HL), R252
  | bit_0_a  -- BIT 0,A, R251
  | bit_1_b  -- BIT 1,B, R251
  | bit_1_c  -- BIT 1,C, R251
  | bit_1_d  -- BIT 1,D, R251
  | bit_1_e  -- BIT 1,E, R251
  | bit_1_h  -- BIT 1,H, R251
  | bit_1_l  -- BIT 1,L, R251
  | bit_1_mhl  -- BIT 1,(HL), R252
  | bit_1_a  -- BIT 1,A, R251
  | bit_2_b  -- BIT 2,B, R251
  | bit_2_c  -- BIT 2,C, R251
  | bit_2_d  -- BIT 2,D, R251
  | bit_2_e  -- BIT 2,E, R251
  | bit_2_h  -- BIT 2,H, R251
  | bit_2_l  -- BIT 2,L, R251
  | bit_2_mhl  -- BIT 2,(HL), R252
  | bit_2_a  -- BIT 2,A, R251
  | bit_3_b  -- BIT 3,B, R251
  | bit_3_c  -- BIT 3,C, R251
  | bit_3_d  -- BIT 3,D, R251
  | bit_3_e  -- BIT 3,E, R251
  | bit_3_h  -- BIT 3,H, R251
  | bit_3_l  -- BIT 3,L, R251
  | bit_3_mhl  -- BIT 3,(HL), R252
  | bit_3_a  -- BIT 3,A, R251
  | bit_4_b  -- BIT 4,B, R251
  | bit_4_c  -- BIT 4,C, R251
  | bit_4_d  -- BIT 4,D, R251
  | bit_4_e  -- BIT 4,E, R251
  | bit_4_h  -- BIT 4,H, R251
  | bit_4_l  -- BIT 4,L, R251
  | bit_4_mhl  -- BIT 4,(HL), R252
  | bit_4_a  -- BIT 4,A, R251
  | bit_5_b  -- BIT 5,B, R251
  | bit_5_c  -- BIT 5,C, R251
  | bit_5_d  -- BIT 5,D, R251
  | bit_5_e  -- BIT 5,E, R251
  | bit_5_h  -- BIT 5,H, R251
  | bit_5_l  -- BIT 5,L, R251
  | bit_5_mhl  -- BIT 5,(HL), R252
  | bit_5_a  -- BIT 5,A, R251
  | bit_6_b  -- BIT 6,B, R251
  | bit_6_c  -- BIT 6,C, R251
  | bit_6_d  -- BIT 6,D, R251
  | bit_6_e  -- BIT 6,E, R251
  | bit_6_h  -- BIT 6,H, R251
  | bit_6_l  -- BIT 6,L, R251
  | bit_6_mhl  -- BIT 6,(HL), R252
  | bit_6_a  -- BIT 6,A, R251
  | bit_7_b  -- BIT 7,B, R251
  | bit_7_c  -- BIT 7,C, R251
  | bit_7_d  -- BIT 7,D, R251
  | bit_7_e  -- BIT 7,E, R251
  | bit_7_h  -- BIT 7,H, R251
  | bit_7_l  -- BIT 7,L, R251
  | bit_7_mhl  -- BIT 7,(HL), R252
  | bit_7_a  -- BIT 7,A, R251
  | res_0_b  -- RES 0,B, R253
  | res_0_c  -- RES 0,C, R253
  | res_0_d  -- RES 0,D, R253
  | res_0_e  -- RES 0,E, R253
  | res_0_h  -- RES 0,H, R253
  | res_0_l  -- RES 0,L, R253
  | res_0_mhl  -- RES 0,(HL), R254
  | res_0_a  -- RES 0,A, R253
  | res_1_b  -- RES 1,B, R253
  | res_1_c  -- RES 1,C, R253
  | res_1_d  -- RES 1,D, R253
  | res_1_e  -- RES 1,E, R253
  | res_1_h  -- RES 1,H, R253
  | res_1_l  -- RES 1,L, R253
  | res_1_mhl  -- RES 1,(HL), R254
  | res_1_a  -- RES 1,A, R253
  | res_2_b  -- RES 2,B, R253
  | res_2_c  -- RES 2,C, R253
  | res_2_d  -- RES 2,D, R253
  | res_2_e  -- RES 2,E, R253
  | res_2_h  -- RES 2,H, R253
  | res_2_l  -- RES 2,L, R253
  | res_2_mhl  -- RES 2,(HL), R254
  | res_2_a  -- RES 2,A, R253
  | res_3_b  -- RES 3,B, R253
  | res_3_c  -- RES 3,C, R253
  | res_3_d  -- RES 3,D, R253
  | res_3_e  -- RES 3,E, R253
  | res_3_h  -- RES 3,H, R253
  | res_3_l  -- RES 3,L, R253
  | res_3_mhl  -- RES 3,(HL), R254
  | res_3_a  -- RES 3,A, R253
  | res_4_b  -- RES 4,B, R253
  | res_4_c  -- RES 4,C, R253
  | res_4_d  -- RES 4,D, R253
  | res_4_e  -- RES 4,E, R253
  | res_4_h  -- RES 4,H, R253
  | res_4_l  -- RES 4,L, R253
  | res_4_mhl  -- RES 4,(HL), R254
  | res_4_a  -- RES 4,A, R253
  | res_5_b  -- RES 5,B, R253
  | res_5_c  -- RES 5,C, R253
  | res_5_d  -- RES 5,D, R253
  | res_5_e  -- RES 5,E, R253
  | res_5_h  -- RES 5,H, R253
  | res_5_l  -- RES 5,L, R253
  | res_5_mhl  -- RES 5,(HL), R254
  | res_5_a  -- RES 5,A, R253
  | res_6_b  -- RES 6,B, R253
  | res_6_c  -- RES 6,C, R253
  | res_6_d  -- RES 6,D, R253
  | res_6_e  -- RES 6,E, R253
  | res_6_h  -- RES 6,H, R253
  | res_6_l  -- RES 6,L, R253
  | res_6_mhl  -- RES 6,(HL), R254
  | res_6_a  -- RES 6,A, R253
  | res_7_b  -- RES 7,B, R253
  | res_7_c  -- RES 7,C, R253
  | res_7_d  -- RES 7,D, R253
  | res_7_e  -- RES 7,E, R253
  | res_7_h  -- RES 7,H, R253
  | res_7_l  -- RES 7,L, R253
  | res_7_mhl  -- RES 7,(HL), R254
  | res_7_a  -- RES 7,A, R253
  | set_0_b  -- SET 0,B, R255
  | set_0_c  -- SET 0,C, R255
  | set_0_d  -- SET 0,D, R255
  | set_0_e  -- SET 0,E, R255
  | set_0_h  -- SET 0,H, R255
  | set_0_l  -- SET 0,L, R255
  | set_0_mhl  -- SET 0,(HL), R256
  | set_0_a  -- SET 0,A, R255
  | set_1_b  -- SET 1,B, R255
  | set_1_c  -- SET 1,C, R255
  | set_1_d  -- SET 1,D, R255
  | set_1_e  -- SET 1,E, R255
  | set_1_h  -- SET 1,H, R255
  | set_1_l  -- SET 1,L, R255
  | set_1_mhl  -- SET 1,(HL), R256
  | set_1_a  -- SET 1,A, R255
  | set_2_b  -- SET 2,B, R255
  | set_2_c  -- SET 2,C, R255
  | set_2_d  -- SET 2,D, R255
  | set_2_e  -- SET 2,E, R255
  | set_2_h  -- SET 2,H, R255
  | set_2_l  -- SET 2,L, R255
  | set_2_mhl  -- SET 2,(HL), R256
  | set_2_a  -- SET 2,A, R255
  | set_3_b  -- SET 3,B, R255
  | set_3_c  -- SET 3,C, R255
  | set_3_d  -- SET 3,D, R255
  | set_3_e  -- SET 3,E, R255
  | set_3_h  -- SET 3,H, R255
  | set_3_l  -- SET 3,L, R255
  | set_3_mhl  -- SET 3,(HL), R256
  | set_3_a  -- SET 3,A, R255
  | set_4_b  -- SET 4,B, R255
  | set_4_c  -- SET 4,C, R255
  | set_4_d  -- SET 4,D, R255
  | set_4_e  -- SET 4,E, R255
  | set_4_h  -- SET 4,H, R255
  | set_4_l  -- SET 4,L, R255
  | set_4_mhl  -- SET 4,(HL), R256
  | set_4_a  -- SET 4,A, R255
  | set_5_b  -- SET 5,B, R255
  | set_5_c  -- SET 5,C, R255
  | set_5_d  -- SET 5,D, R255
  | set_5_e  -- SET 5,E, R255
  | set_5_h  -- SET 5,H, R255
  | set_5_l  -- SET 5,L, R255
  | set_5_mhl  -- SET 5,(HL), R256
  | set_5_a  -- SET 5,A, R255
  | set_6_b  -- SET 6,B, R255
  | set_6_c  -- SET 6,C, R255
  | set_6_d  -- SET 6,D, R255
  | set_6_e  -- SET 6,E, R255
  | set_6_h  -- SET 6,H, R255
  | set_6_l  -- SET 6,L, R255
  | set_6_mhl  -- SET 6,(HL), R256
  | set_6_a  -- SET 6,A, R255
  | set_7_b  -- SET 7,B, R255
  | set_7_c  -- SET 7,C, R255
  | set_7_d  -- SET 7,D, R255
  | set_7_e  -- SET 7,E, R255
  | set_7_h  -- SET 7,H, R255
  | set_7_l  -- SET 7,L, R255
  | set_7_mhl  -- SET 7,(HL), R256
  | set_7_a  -- SET 7,A, R255
deriving DecidableEq, Repr

/-- The register field value (R108). -/
def Reg8.code : Reg8 → Nat
  | .b => 0
  | .c => 1
  | .d => 2
  | .e => 3
  | .h => 4
  | .l => 5
  | .a => 7

/-- The pair field value, `rp` (R109). -/
def Pair.code : Pair → Nat
  | .bc => 0
  | .de => 1
  | .hl => 2
  | .sp => 3

/-- The pair field value, `rp2` (R109). -/
def StackPair.code : StackPair → Nat
  | .bc => 0
  | .de => 1
  | .hl => 2
  | .af => 3

/-- The condition field value (R110). -/
def Cond.code : Cond → Nat
  | .nz => 0
  | .z => 1
  | .nc => 2
  | .c => 3

/-- The operation field value (R111). -/
def AluOp.code : AluOp → Nat
  | .add => 0
  | .adc => 1
  | .sub => 2
  | .sbc => 3
  | .and => 4
  | .xor => 5
  | .or => 6
  | .cp => 7

/-- The operation field value (R111). -/
def RotOp.code : RotOp → Nat
  | .rlc => 0
  | .rrc => 1
  | .rl => 2
  | .rr => 3
  | .sla => 4
  | .sra => 5
  | .swap => 6
  | .srl => 7

/-- The opcode byte (R114). -/
def Unmapped.code : Unmapped → Byte
  | .xd3 => 0xD3
  | .xdb => 0xDB
  | .xdd => 0xDD
  | .xe3 => 0xE3
  | .xe4 => 0xE4
  | .xeb => 0xEB
  | .xec => 0xEC
  | .xed => 0xED
  | .xf4 => 0xF4
  | .xfc => 0xFC
  | .xfd => 0xFD

/-- `LD d,r` (R140). -/
def Instr.ld8 (rd : Reg8) (rs : Reg8) : Instr :=
  match rd, rs with
  | .b, .b => .ld_b_b
  | .b, .c => .ld_b_c
  | .b, .d => .ld_b_d
  | .b, .e => .ld_b_e
  | .b, .h => .ld_b_h
  | .b, .l => .ld_b_l
  | .b, .a => .ld_b_a
  | .c, .b => .ld_c_b
  | .c, .c => .ld_c_c
  | .c, .d => .ld_c_d
  | .c, .e => .ld_c_e
  | .c, .h => .ld_c_h
  | .c, .l => .ld_c_l
  | .c, .a => .ld_c_a
  | .d, .b => .ld_d_b
  | .d, .c => .ld_d_c
  | .d, .d => .ld_d_d
  | .d, .e => .ld_d_e
  | .d, .h => .ld_d_h
  | .d, .l => .ld_d_l
  | .d, .a => .ld_d_a
  | .e, .b => .ld_e_b
  | .e, .c => .ld_e_c
  | .e, .d => .ld_e_d
  | .e, .e => .ld_e_e
  | .e, .h => .ld_e_h
  | .e, .l => .ld_e_l
  | .e, .a => .ld_e_a
  | .h, .b => .ld_h_b
  | .h, .c => .ld_h_c
  | .h, .d => .ld_h_d
  | .h, .e => .ld_h_e
  | .h, .h => .ld_h_h
  | .h, .l => .ld_h_l
  | .h, .a => .ld_h_a
  | .l, .b => .ld_l_b
  | .l, .c => .ld_l_c
  | .l, .d => .ld_l_d
  | .l, .e => .ld_l_e
  | .l, .h => .ld_l_h
  | .l, .l => .ld_l_l
  | .l, .a => .ld_l_a
  | .a, .b => .ld_a_b
  | .a, .c => .ld_a_c
  | .a, .d => .ld_a_d
  | .a, .e => .ld_a_e
  | .a, .h => .ld_a_h
  | .a, .l => .ld_a_l
  | .a, .a => .ld_a_a

/-- `LD d,n8` (R141). -/
def Instr.ld8Imm (rd : Reg8) (n : Byte) : Instr :=
  match rd with
  | .b => .ld_b_n8 n
  | .c => .ld_c_n8 n
  | .d => .ld_d_n8 n
  | .e => .ld_e_n8 n
  | .h => .ld_h_n8 n
  | .l => .ld_l_n8 n
  | .a => .ld_a_n8 n

/-- `LD d,(HL)` (R142). -/
def Instr.ld8FromHl (rd : Reg8) : Instr :=
  match rd with
  | .b => .ld_b_mhl
  | .c => .ld_c_mhl
  | .d => .ld_d_mhl
  | .e => .ld_e_mhl
  | .h => .ld_h_mhl
  | .l => .ld_l_mhl
  | .a => .ld_a_mhl

/-- `LD (HL),r` (R143). -/
def Instr.ldHlFrom8 (r : Reg8) : Instr :=
  match r with
  | .b => .ld_mhl_b
  | .c => .ld_mhl_c
  | .d => .ld_mhl_d
  | .e => .ld_mhl_e
  | .h => .ld_mhl_h
  | .l => .ld_mhl_l
  | .a => .ld_mhl_a

/-- `LD rr,n16` (R162). -/
def Instr.ld16 (p : Pair) (n : Word) : Instr :=
  match p with
  | .bc => .ld_bc_n16 n
  | .de => .ld_de_n16 n
  | .hl => .ld_hl_n16 n
  | .sp => .ld_sp_n16 n

/-- `PUSH rr`, `PUSH AF` (R166, R167). -/
def Instr.push (p : StackPair) : Instr :=
  match p with
  | .bc => .push_bc
  | .de => .push_de
  | .hl => .push_hl
  | .af => .push_af

/-- `POP rr`, `POP AF` (R168, R169). -/
def Instr.pop (p : StackPair) : Instr :=
  match p with
  | .bc => .pop_bc
  | .de => .pop_de
  | .hl => .pop_hl
  | .af => .pop_af

/-- `op A,r` (R189, R192, R195, R198, R201, R204, R207, R210). -/
def Instr.alu8 (op : AluOp) (r : Reg8) : Instr :=
  match op, r with
  | .add, .b => .add_a_b
  | .add, .c => .add_a_c
  | .add, .d => .add_a_d
  | .add, .e => .add_a_e
  | .add, .h => .add_a_h
  | .add, .l => .add_a_l
  | .add, .a => .add_a_a
  | .adc, .b => .adc_a_b
  | .adc, .c => .adc_a_c
  | .adc, .d => .adc_a_d
  | .adc, .e => .adc_a_e
  | .adc, .h => .adc_a_h
  | .adc, .l => .adc_a_l
  | .adc, .a => .adc_a_a
  | .sub, .b => .sub_a_b
  | .sub, .c => .sub_a_c
  | .sub, .d => .sub_a_d
  | .sub, .e => .sub_a_e
  | .sub, .h => .sub_a_h
  | .sub, .l => .sub_a_l
  | .sub, .a => .sub_a_a
  | .sbc, .b => .sbc_a_b
  | .sbc, .c => .sbc_a_c
  | .sbc, .d => .sbc_a_d
  | .sbc, .e => .sbc_a_e
  | .sbc, .h => .sbc_a_h
  | .sbc, .l => .sbc_a_l
  | .sbc, .a => .sbc_a_a
  | .and, .b => .and_a_b
  | .and, .c => .and_a_c
  | .and, .d => .and_a_d
  | .and, .e => .and_a_e
  | .and, .h => .and_a_h
  | .and, .l => .and_a_l
  | .and, .a => .and_a_a
  | .xor, .b => .xor_a_b
  | .xor, .c => .xor_a_c
  | .xor, .d => .xor_a_d
  | .xor, .e => .xor_a_e
  | .xor, .h => .xor_a_h
  | .xor, .l => .xor_a_l
  | .xor, .a => .xor_a_a
  | .or, .b => .or_a_b
  | .or, .c => .or_a_c
  | .or, .d => .or_a_d
  | .or, .e => .or_a_e
  | .or, .h => .or_a_h
  | .or, .l => .or_a_l
  | .or, .a => .or_a_a
  | .cp, .b => .cp_a_b
  | .cp, .c => .cp_a_c
  | .cp, .d => .cp_a_d
  | .cp, .e => .cp_a_e
  | .cp, .h => .cp_a_h
  | .cp, .l => .cp_a_l
  | .cp, .a => .cp_a_a

/-- `op A,(HL)` (R190, R193, R196, R199, R202, R205, R208, R211). -/
def Instr.aluHl (op : AluOp) : Instr :=
  match op with
  | .add => .add_a_mhl
  | .adc => .adc_a_mhl
  | .sub => .sub_a_mhl
  | .sbc => .sbc_a_mhl
  | .and => .and_a_mhl
  | .xor => .xor_a_mhl
  | .or => .or_a_mhl
  | .cp => .cp_a_mhl

/-- `op A,n8` (R191, R194, R197, R200, R203, R206, R209, R212). -/
def Instr.aluImm (op : AluOp) (n : Byte) : Instr :=
  match op with
  | .add => .add_a_n8 n
  | .adc => .adc_a_n8 n
  | .sub => .sub_a_n8 n
  | .sbc => .sbc_a_n8 n
  | .and => .and_a_n8 n
  | .xor => .xor_a_n8 n
  | .or => .or_a_n8 n
  | .cp => .cp_a_n8 n

/-- `INC r` (R213). -/
def Instr.inc8 (r : Reg8) : Instr :=
  match r with
  | .b => .inc_b
  | .c => .inc_c
  | .d => .inc_d
  | .e => .inc_e
  | .h => .inc_h
  | .l => .inc_l
  | .a => .inc_a

/-- `DEC r` (R215). -/
def Instr.dec8 (r : Reg8) : Instr :=
  match r with
  | .b => .dec_b
  | .c => .dec_c
  | .d => .dec_d
  | .e => .dec_e
  | .h => .dec_h
  | .l => .dec_l
  | .a => .dec_a

/-- `ADD HL,rr` (R225). -/
def Instr.addHl (p : Pair) : Instr :=
  match p with
  | .bc => .add_hl_bc
  | .de => .add_hl_de
  | .hl => .add_hl_hl
  | .sp => .add_hl_sp

/-- `INC rr` (R226). -/
def Instr.inc16 (p : Pair) : Instr :=
  match p with
  | .bc => .inc_bc
  | .de => .inc_de
  | .hl => .inc_hl
  | .sp => .inc_sp

/-- `DEC rr` (R227). -/
def Instr.dec16 (p : Pair) : Instr :=
  match p with
  | .bc => .dec_bc
  | .de => .dec_de
  | .hl => .dec_hl
  | .sp => .dec_sp

/-- The prefixed rotates and shifts on a register (R235 to R249, odd rules). -/
def Instr.rot8 (op : RotOp) (r : Reg8) : Instr :=
  match op, r with
  | .rlc, .b => .rlc_b
  | .rlc, .c => .rlc_c
  | .rlc, .d => .rlc_d
  | .rlc, .e => .rlc_e
  | .rlc, .h => .rlc_h
  | .rlc, .l => .rlc_l
  | .rlc, .a => .rlc_a
  | .rrc, .b => .rrc_b
  | .rrc, .c => .rrc_c
  | .rrc, .d => .rrc_d
  | .rrc, .e => .rrc_e
  | .rrc, .h => .rrc_h
  | .rrc, .l => .rrc_l
  | .rrc, .a => .rrc_a
  | .rl, .b => .rl_b
  | .rl, .c => .rl_c
  | .rl, .d => .rl_d
  | .rl, .e => .rl_e
  | .rl, .h => .rl_h
  | .rl, .l => .rl_l
  | .rl, .a => .rl_a
  | .rr, .b => .rr_b
  | .rr, .c => .rr_c
  | .rr, .d => .rr_d
  | .rr, .e => .rr_e
  | .rr, .h => .rr_h
  | .rr, .l => .rr_l
  | .rr, .a => .rr_a
  | .sla, .b => .sla_b
  | .sla, .c => .sla_c
  | .sla, .d => .sla_d
  | .sla, .e => .sla_e
  | .sla, .h => .sla_h
  | .sla, .l => .sla_l
  | .sla, .a => .sla_a
  | .sra, .b => .sra_b
  | .sra, .c => .sra_c
  | .sra, .d => .sra_d
  | .sra, .e => .sra_e
  | .sra, .h => .sra_h
  | .sra, .l => .sra_l
  | .sra, .a => .sra_a
  | .swap, .b => .swap_b
  | .swap, .c => .swap_c
  | .swap, .d => .swap_d
  | .swap, .e => .swap_e
  | .swap, .h => .swap_h
  | .swap, .l => .swap_l
  | .swap, .a => .swap_a
  | .srl, .b => .srl_b
  | .srl, .c => .srl_c
  | .srl, .d => .srl_d
  | .srl, .e => .srl_e
  | .srl, .h => .srl_h
  | .srl, .l => .srl_l
  | .srl, .a => .srl_a

/-- The prefixed rotates and shifts on `(HL)` (R236 to R250, even rules). -/
def Instr.rotHl (op : RotOp) : Instr :=
  match op with
  | .rlc => .rlc_mhl
  | .rrc => .rrc_mhl
  | .rl => .rl_mhl
  | .rr => .rr_mhl
  | .sla => .sla_mhl
  | .sra => .sra_mhl
  | .swap => .swap_mhl
  | .srl => .srl_mhl

/-- `BIT b,r` (R251). -/
def Instr.bit8 (b : Fin 8) (r : Reg8) : Instr :=
  match b, r with
  | 0, .b => .bit_0_b
  | 0, .c => .bit_0_c
  | 0, .d => .bit_0_d
  | 0, .e => .bit_0_e
  | 0, .h => .bit_0_h
  | 0, .l => .bit_0_l
  | 0, .a => .bit_0_a
  | 1, .b => .bit_1_b
  | 1, .c => .bit_1_c
  | 1, .d => .bit_1_d
  | 1, .e => .bit_1_e
  | 1, .h => .bit_1_h
  | 1, .l => .bit_1_l
  | 1, .a => .bit_1_a
  | 2, .b => .bit_2_b
  | 2, .c => .bit_2_c
  | 2, .d => .bit_2_d
  | 2, .e => .bit_2_e
  | 2, .h => .bit_2_h
  | 2, .l => .bit_2_l
  | 2, .a => .bit_2_a
  | 3, .b => .bit_3_b
  | 3, .c => .bit_3_c
  | 3, .d => .bit_3_d
  | 3, .e => .bit_3_e
  | 3, .h => .bit_3_h
  | 3, .l => .bit_3_l
  | 3, .a => .bit_3_a
  | 4, .b => .bit_4_b
  | 4, .c => .bit_4_c
  | 4, .d => .bit_4_d
  | 4, .e => .bit_4_e
  | 4, .h => .bit_4_h
  | 4, .l => .bit_4_l
  | 4, .a => .bit_4_a
  | 5, .b => .bit_5_b
  | 5, .c => .bit_5_c
  | 5, .d => .bit_5_d
  | 5, .e => .bit_5_e
  | 5, .h => .bit_5_h
  | 5, .l => .bit_5_l
  | 5, .a => .bit_5_a
  | 6, .b => .bit_6_b
  | 6, .c => .bit_6_c
  | 6, .d => .bit_6_d
  | 6, .e => .bit_6_e
  | 6, .h => .bit_6_h
  | 6, .l => .bit_6_l
  | 6, .a => .bit_6_a
  | 7, .b => .bit_7_b
  | 7, .c => .bit_7_c
  | 7, .d => .bit_7_d
  | 7, .e => .bit_7_e
  | 7, .h => .bit_7_h
  | 7, .l => .bit_7_l
  | 7, .a => .bit_7_a

/-- `BIT b,(HL)` (R252). -/
def Instr.bitHl (b : Fin 8) : Instr :=
  match b with
  | 0 => .bit_0_mhl
  | 1 => .bit_1_mhl
  | 2 => .bit_2_mhl
  | 3 => .bit_3_mhl
  | 4 => .bit_4_mhl
  | 5 => .bit_5_mhl
  | 6 => .bit_6_mhl
  | 7 => .bit_7_mhl

/-- `RES b,r` (R253). -/
def Instr.res8 (b : Fin 8) (r : Reg8) : Instr :=
  match b, r with
  | 0, .b => .res_0_b
  | 0, .c => .res_0_c
  | 0, .d => .res_0_d
  | 0, .e => .res_0_e
  | 0, .h => .res_0_h
  | 0, .l => .res_0_l
  | 0, .a => .res_0_a
  | 1, .b => .res_1_b
  | 1, .c => .res_1_c
  | 1, .d => .res_1_d
  | 1, .e => .res_1_e
  | 1, .h => .res_1_h
  | 1, .l => .res_1_l
  | 1, .a => .res_1_a
  | 2, .b => .res_2_b
  | 2, .c => .res_2_c
  | 2, .d => .res_2_d
  | 2, .e => .res_2_e
  | 2, .h => .res_2_h
  | 2, .l => .res_2_l
  | 2, .a => .res_2_a
  | 3, .b => .res_3_b
  | 3, .c => .res_3_c
  | 3, .d => .res_3_d
  | 3, .e => .res_3_e
  | 3, .h => .res_3_h
  | 3, .l => .res_3_l
  | 3, .a => .res_3_a
  | 4, .b => .res_4_b
  | 4, .c => .res_4_c
  | 4, .d => .res_4_d
  | 4, .e => .res_4_e
  | 4, .h => .res_4_h
  | 4, .l => .res_4_l
  | 4, .a => .res_4_a
  | 5, .b => .res_5_b
  | 5, .c => .res_5_c
  | 5, .d => .res_5_d
  | 5, .e => .res_5_e
  | 5, .h => .res_5_h
  | 5, .l => .res_5_l
  | 5, .a => .res_5_a
  | 6, .b => .res_6_b
  | 6, .c => .res_6_c
  | 6, .d => .res_6_d
  | 6, .e => .res_6_e
  | 6, .h => .res_6_h
  | 6, .l => .res_6_l
  | 6, .a => .res_6_a
  | 7, .b => .res_7_b
  | 7, .c => .res_7_c
  | 7, .d => .res_7_d
  | 7, .e => .res_7_e
  | 7, .h => .res_7_h
  | 7, .l => .res_7_l
  | 7, .a => .res_7_a

/-- `RES b,(HL)` (R254). -/
def Instr.resHl (b : Fin 8) : Instr :=
  match b with
  | 0 => .res_0_mhl
  | 1 => .res_1_mhl
  | 2 => .res_2_mhl
  | 3 => .res_3_mhl
  | 4 => .res_4_mhl
  | 5 => .res_5_mhl
  | 6 => .res_6_mhl
  | 7 => .res_7_mhl

/-- `SET b,r` (R255). -/
def Instr.set8 (b : Fin 8) (r : Reg8) : Instr :=
  match b, r with
  | 0, .b => .set_0_b
  | 0, .c => .set_0_c
  | 0, .d => .set_0_d
  | 0, .e => .set_0_e
  | 0, .h => .set_0_h
  | 0, .l => .set_0_l
  | 0, .a => .set_0_a
  | 1, .b => .set_1_b
  | 1, .c => .set_1_c
  | 1, .d => .set_1_d
  | 1, .e => .set_1_e
  | 1, .h => .set_1_h
  | 1, .l => .set_1_l
  | 1, .a => .set_1_a
  | 2, .b => .set_2_b
  | 2, .c => .set_2_c
  | 2, .d => .set_2_d
  | 2, .e => .set_2_e
  | 2, .h => .set_2_h
  | 2, .l => .set_2_l
  | 2, .a => .set_2_a
  | 3, .b => .set_3_b
  | 3, .c => .set_3_c
  | 3, .d => .set_3_d
  | 3, .e => .set_3_e
  | 3, .h => .set_3_h
  | 3, .l => .set_3_l
  | 3, .a => .set_3_a
  | 4, .b => .set_4_b
  | 4, .c => .set_4_c
  | 4, .d => .set_4_d
  | 4, .e => .set_4_e
  | 4, .h => .set_4_h
  | 4, .l => .set_4_l
  | 4, .a => .set_4_a
  | 5, .b => .set_5_b
  | 5, .c => .set_5_c
  | 5, .d => .set_5_d
  | 5, .e => .set_5_e
  | 5, .h => .set_5_h
  | 5, .l => .set_5_l
  | 5, .a => .set_5_a
  | 6, .b => .set_6_b
  | 6, .c => .set_6_c
  | 6, .d => .set_6_d
  | 6, .e => .set_6_e
  | 6, .h => .set_6_h
  | 6, .l => .set_6_l
  | 6, .a => .set_6_a
  | 7, .b => .set_7_b
  | 7, .c => .set_7_c
  | 7, .d => .set_7_d
  | 7, .e => .set_7_e
  | 7, .h => .set_7_h
  | 7, .l => .set_7_l
  | 7, .a => .set_7_a

/-- `SET b,(HL)` (R256). -/
def Instr.setHl (b : Fin 8) : Instr :=
  match b with
  | 0 => .set_0_mhl
  | 1 => .set_1_mhl
  | 2 => .set_2_mhl
  | 3 => .set_3_mhl
  | 4 => .set_4_mhl
  | 5 => .set_5_mhl
  | 6 => .set_6_mhl
  | 7 => .set_7_mhl

/-- `JP cc,a16` (R262). -/
def Instr.jpCond (cc : Cond) (a : Word) : Instr :=
  match cc with
  | .nz => .jp_nz_a16 a
  | .z => .jp_z_a16 a
  | .nc => .jp_nc_a16 a
  | .c => .jp_c_a16 a

/-- `JR cc,e8` (R265). -/
def Instr.jrCond (cc : Cond) (e : Byte) : Instr :=
  match cc with
  | .nz => .jr_nz_e8 e
  | .z => .jr_z_e8 e
  | .nc => .jr_nc_e8 e
  | .c => .jr_c_e8 e

/-- `CALL cc,a16` (R267). -/
def Instr.callCond (cc : Cond) (a : Word) : Instr :=
  match cc with
  | .nz => .call_nz_a16 a
  | .z => .call_z_a16 a
  | .nc => .call_nc_a16 a
  | .c => .call_c_a16 a

/-- `RET cc` (R269). -/
def Instr.retCond (cc : Cond) : Instr :=
  match cc with
  | .nz => .ret_nz
  | .z => .ret_z
  | .nc => .ret_nc
  | .c => .ret_c

/-- `RST 8y` (R271). -/
def Instr.rst (y : Fin 8) : Instr :=
  match y with
  | 0 => .rst_00
  | 1 => .rst_08
  | 2 => .rst_10
  | 3 => .rst_18
  | 4 => .rst_20
  | 5 => .rst_28
  | 6 => .rst_30
  | 7 => .rst_38

/-- The rows of the eleven unmapped bytes (R286). -/
def Instr.unmapped (u : Unmapped) : Instr :=
  match u with
  | .xd3 => .illegal_d3
  | .xdb => .illegal_db
  | .xdd => .illegal_dd
  | .xe3 => .illegal_e3
  | .xe4 => .illegal_e4
  | .xeb => .illegal_eb
  | .xec => .illegal_ec
  | .xed => .illegal_ed
  | .xf4 => .illegal_f4
  | .xfc => .illegal_fc
  | .xfd => .illegal_fd

end Sys2Proof
end

