-- ==== Sys2Proof/WellFormed.lean ====
section
/-!
DEFINITION. Which terms of `Instr` are instructions. Every field of every constructor has exactly
the values the encoding admits (the types see to that), so one check is left: the row `PREFIX_CB` is
the marker byte 0xCB, which "is not an instruction of its own" (47_system.md R285; log entry 8).
-/

namespace Sys2Proof

/-- The marker row alone is not an instruction (R285); every other row is (R112 to R115). -/
def Instr.wellFormed : Instr → Bool
  | .prefix_cb => false
  | _ => true

/-- `i` is an instruction of the hardware. -/
abbrev Instr.WellFormed (i : Instr) : Prop := i.wellFormed = true

end Sys2Proof
end

