-- ==== Sys2Proof/Decode.lean ====
section
/-!
DEFINITION. The opcode decoder (30_encoding.md): the byte-order helpers, the base table as the
16 x 16 grid of R112 and the prefixed table of R113, decoding of a list of bytes (R107), the
encoder written from the same tables, and the host's view of a table row as one number. Decoding
refuses nothing but a list that ends before the instruction does.
-/

namespace Sys2Proof

/-- A 16-bit quantity from its two bytes, the low one first in memory (R70, R106, R126). -/
def word (lo hi : Byte) : Word := hi ++ lo

/-- Bits 7:0 of a word. -/
def loByte (w : Word) : Byte := w.extractLsb' 0 8

/-- Bits 15:8 of a word. -/
def hiByte (w : Word) : Byte := w.extractLsb' 8 8

/-- An entry of the base table: what is still to be fetched before the instruction is known
(the `bytes` field of R104 and R100), and the row it gives. -/
inductive Entry where
  /-- Format `OP`: one byte. -/
  | plain (i : Instr)
  /-- Formats `OP_N8`, `OP_E8`, `OP_A8`: one immediate byte follows. -/
  | byte (f : Byte → Instr)
  /-- Formats `OP_N16`, `OP_A16`: two immediate bytes follow, the low one first. -/
  | word (f : Word → Instr)
  /-- 0xCB: a second opcode byte follows (R100). -/
  | marker

/-- Row 0x of the grid of R112. -/
def baseRow0 : List Entry :=
  [.plain .nop, .word .ld_bc_n16, .plain .ld_mbc_a, .plain .inc_bc,
   .plain .inc_b, .plain .dec_b, .byte .ld_b_n8, .plain .rlca,
   .word .ld_ma16_sp, .plain .add_hl_bc, .plain .ld_a_mbc, .plain .dec_bc,
   .plain .inc_c, .plain .dec_c, .byte .ld_c_n8, .plain .rrca]

/-- Row 1x of the grid of R112. -/
def baseRow1 : List Entry :=
  [.byte .stop_n8, .word .ld_de_n16, .plain .ld_mde_a, .plain .inc_de,
   .plain .inc_d, .plain .dec_d, .byte .ld_d_n8, .plain .rla,
   .byte .jr_e8, .plain .add_hl_de, .plain .ld_a_mde, .plain .dec_de,
   .plain .inc_e, .plain .dec_e, .byte .ld_e_n8, .plain .rra]

/-- Row 2x of the grid of R112. -/
def baseRow2 : List Entry :=
  [.byte .jr_nz_e8, .word .ld_hl_n16, .plain .ld_mhli_a, .plain .inc_hl,
   .plain .inc_h, .plain .dec_h, .byte .ld_h_n8, .plain .daa,
   .byte .jr_z_e8, .plain .add_hl_hl, .plain .ld_a_mhli, .plain .dec_hl,
   .plain .inc_l, .plain .dec_l, .byte .ld_l_n8, .plain .cpl]

/-- Row 3x of the grid of R112. -/
def baseRow3 : List Entry :=
  [.byte .jr_nc_e8, .word .ld_sp_n16, .plain .ld_mhld_a, .plain .inc_sp,
   .plain .inc_mhl, .plain .dec_mhl, .byte .ld_mhl_n8, .plain .scf,
   .byte .jr_c_e8, .plain .add_hl_sp, .plain .ld_a_mhld, .plain .dec_sp,
   .plain .inc_a, .plain .dec_a, .byte .ld_a_n8, .plain .ccf]

/-- Row 4x of the grid of R112. -/
def baseRow4 : List Entry :=
  [.plain .ld_b_b, .plain .ld_b_c, .plain .ld_b_d, .plain .ld_b_e,
   .plain .ld_b_h, .plain .ld_b_l, .plain .ld_b_mhl, .plain .ld_b_a,
   .plain .ld_c_b, .plain .ld_c_c, .plain .ld_c_d, .plain .ld_c_e,
   .plain .ld_c_h, .plain .ld_c_l, .plain .ld_c_mhl, .plain .ld_c_a]

/-- Row 5x of the grid of R112. -/
def baseRow5 : List Entry :=
  [.plain .ld_d_b, .plain .ld_d_c, .plain .ld_d_d, .plain .ld_d_e,
   .plain .ld_d_h, .plain .ld_d_l, .plain .ld_d_mhl, .plain .ld_d_a,
   .plain .ld_e_b, .plain .ld_e_c, .plain .ld_e_d, .plain .ld_e_e,
   .plain .ld_e_h, .plain .ld_e_l, .plain .ld_e_mhl, .plain .ld_e_a]

/-- Row 6x of the grid of R112. -/
def baseRow6 : List Entry :=
  [.plain .ld_h_b, .plain .ld_h_c, .plain .ld_h_d, .plain .ld_h_e,
   .plain .ld_h_h, .plain .ld_h_l, .plain .ld_h_mhl, .plain .ld_h_a,
   .plain .ld_l_b, .plain .ld_l_c, .plain .ld_l_d, .plain .ld_l_e,
   .plain .ld_l_h, .plain .ld_l_l, .plain .ld_l_mhl, .plain .ld_l_a]

/-- Row 7x of the grid of R112. -/
def baseRow7 : List Entry :=
  [.plain .ld_mhl_b, .plain .ld_mhl_c, .plain .ld_mhl_d, .plain .ld_mhl_e,
   .plain .ld_mhl_h, .plain .ld_mhl_l, .plain .halt, .plain .ld_mhl_a,
   .plain .ld_a_b, .plain .ld_a_c, .plain .ld_a_d, .plain .ld_a_e,
   .plain .ld_a_h, .plain .ld_a_l, .plain .ld_a_mhl, .plain .ld_a_a]

/-- Row 8x of the grid of R112. -/
def baseRow8 : List Entry :=
  [.plain .add_a_b, .plain .add_a_c, .plain .add_a_d, .plain .add_a_e,
   .plain .add_a_h, .plain .add_a_l, .plain .add_a_mhl, .plain .add_a_a,
   .plain .adc_a_b, .plain .adc_a_c, .plain .adc_a_d, .plain .adc_a_e,
   .plain .adc_a_h, .plain .adc_a_l, .plain .adc_a_mhl, .plain .adc_a_a]

/-- Row 9x of the grid of R112. -/
def baseRow9 : List Entry :=
  [.plain .sub_a_b, .plain .sub_a_c, .plain .sub_a_d, .plain .sub_a_e,
   .plain .sub_a_h, .plain .sub_a_l, .plain .sub_a_mhl, .plain .sub_a_a,
   .plain .sbc_a_b, .plain .sbc_a_c, .plain .sbc_a_d, .plain .sbc_a_e,
   .plain .sbc_a_h, .plain .sbc_a_l, .plain .sbc_a_mhl, .plain .sbc_a_a]

/-- Row Ax of the grid of R112. -/
def baseRowA : List Entry :=
  [.plain .and_a_b, .plain .and_a_c, .plain .and_a_d, .plain .and_a_e,
   .plain .and_a_h, .plain .and_a_l, .plain .and_a_mhl, .plain .and_a_a,
   .plain .xor_a_b, .plain .xor_a_c, .plain .xor_a_d, .plain .xor_a_e,
   .plain .xor_a_h, .plain .xor_a_l, .plain .xor_a_mhl, .plain .xor_a_a]

/-- Row Bx of the grid of R112. -/
def baseRowB : List Entry :=
  [.plain .or_a_b, .plain .or_a_c, .plain .or_a_d, .plain .or_a_e,
   .plain .or_a_h, .plain .or_a_l, .plain .or_a_mhl, .plain .or_a_a,
   .plain .cp_a_b, .plain .cp_a_c, .plain .cp_a_d, .plain .cp_a_e,
   .plain .cp_a_h, .plain .cp_a_l, .plain .cp_a_mhl, .plain .cp_a_a]

/-- Row Cx of the grid of R112. -/
def baseRowC : List Entry :=
  [.plain .ret_nz, .plain .pop_bc, .word .jp_nz_a16, .word .jp_a16,
   .word .call_nz_a16, .plain .push_bc, .byte .add_a_n8, .plain .rst_00,
   .plain .ret_z, .plain .ret, .word .jp_z_a16, .marker,
   .word .call_z_a16, .word .call_a16, .byte .adc_a_n8, .plain .rst_08]

/-- Row Dx of the grid of R112. -/
def baseRowD : List Entry :=
  [.plain .ret_nc, .plain .pop_de, .word .jp_nc_a16, .plain .illegal_d3,
   .word .call_nc_a16, .plain .push_de, .byte .sub_a_n8, .plain .rst_10,
   .plain .ret_c, .plain .reti, .word .jp_c_a16, .plain .illegal_db,
   .word .call_c_a16, .plain .illegal_dd, .byte .sbc_a_n8, .plain .rst_18]

/-- Row Ex of the grid of R112. -/
def baseRowE : List Entry :=
  [.byte .ldh_ma8_a, .plain .pop_hl, .plain .ldh_mc_a, .plain .illegal_e3,
   .plain .illegal_e4, .plain .push_hl, .byte .and_a_n8, .plain .rst_20,
   .byte .add_sp_e8, .plain .jp_hl, .word .ld_ma16_a, .plain .illegal_eb,
   .plain .illegal_ec, .plain .illegal_ed, .byte .xor_a_n8, .plain .rst_28]

/-- Row Fx of the grid of R112. -/
def baseRowF : List Entry :=
  [.byte .ldh_a_ma8, .plain .pop_af, .plain .ldh_a_mc, .plain .di,
   .plain .illegal_f4, .plain .push_af, .byte .or_a_n8, .plain .rst_30,
   .byte .ld_hl_sp_e8, .plain .ld_sp_hl, .word .ld_a_ma16, .plain .ei,
   .plain .illegal_fc, .plain .illegal_fd, .byte .cp_a_n8, .plain .rst_38]

/-- The cell of a 16 x 16 grid for a byte: row = high nibble, column = low nibble (R112). -/
def gridCell {α : Type} (g : List (List α)) (h : g.length = 16) (hr : ∀ r ∈ g, r.length = 16)
    (op : Byte) : α :=
  (g[op.toNat / 16]'(by have := op.isLt; omega))[op.toNat % 16]'(by
    rw [hr _ (List.getElem_mem _)]; exact Nat.mod_lt _ (by decide))

/-- The base table as the grid of R112, one row for each high nibble. -/
def baseGrid : List (List Entry) :=
  [baseRow0, baseRow1, baseRow2, baseRow3, baseRow4, baseRow5, baseRow6, baseRow7,
   baseRow8, baseRow9, baseRowA, baseRowB, baseRowC, baseRowD, baseRowE, baseRowF]

/-- Sixteen rows of sixteen: every byte has its cell (R107: decoding is total). -/
theorem baseGrid_length : baseGrid.length = 16 := rfl

/-- Sixteen rows of sixteen: every byte has its cell (R107: decoding is total). -/
theorem baseGrid_row_length (r) (h : r ∈ baseGrid) : r.length = 16 := by
  simp only [baseGrid, List.mem_cons, List.not_mem_nil, or_false] at h
  rcases h with rfl | rfl | rfl | rfl | rfl | rfl | rfl | rfl | rfl | rfl | rfl | rfl | rfl | rfl | rfl | rfl <;> rfl

/-- The base table's entry for an opcode byte (R112). -/
def baseEntry (op : Byte) : Entry :=
  gridCell baseGrid baseGrid_length baseGrid_row_length op

/-- Row 0x of the prefixed table (R113). -/
def prefixedRow0 : List Instr :=
  [.rlc_b, .rlc_c, .rlc_d, .rlc_e, .rlc_h, .rlc_l, .rlc_mhl, .rlc_a,
   .rrc_b, .rrc_c, .rrc_d, .rrc_e, .rrc_h, .rrc_l, .rrc_mhl, .rrc_a]

/-- Row 1x of the prefixed table (R113). -/
def prefixedRow1 : List Instr :=
  [.rl_b, .rl_c, .rl_d, .rl_e, .rl_h, .rl_l, .rl_mhl, .rl_a,
   .rr_b, .rr_c, .rr_d, .rr_e, .rr_h, .rr_l, .rr_mhl, .rr_a]

/-- Row 2x of the prefixed table (R113). -/
def prefixedRow2 : List Instr :=
  [.sla_b, .sla_c, .sla_d, .sla_e, .sla_h, .sla_l, .sla_mhl, .sla_a,
   .sra_b, .sra_c, .sra_d, .sra_e, .sra_h, .sra_l, .sra_mhl, .sra_a]

/-- Row 3x of the prefixed table (R113). -/
def prefixedRow3 : List Instr :=
  [.swap_b, .swap_c, .swap_d, .swap_e, .swap_h, .swap_l, .swap_mhl, .swap_a,
   .srl_b, .srl_c, .srl_d, .srl_e, .srl_h, .srl_l, .srl_mhl, .srl_a]

/-- Row 4x of the prefixed table (R113). -/
def prefixedRow4 : List Instr :=
  [.bit_0_b, .bit_0_c, .bit_0_d, .bit_0_e, .bit_0_h, .bit_0_l, .bit_0_mhl, .bit_0_a,
   .bit_1_b, .bit_1_c, .bit_1_d, .bit_1_e, .bit_1_h, .bit_1_l, .bit_1_mhl, .bit_1_a]

/-- Row 5x of the prefixed table (R113). -/
def prefixedRow5 : List Instr :=
  [.bit_2_b, .bit_2_c, .bit_2_d, .bit_2_e, .bit_2_h, .bit_2_l, .bit_2_mhl, .bit_2_a,
   .bit_3_b, .bit_3_c, .bit_3_d, .bit_3_e, .bit_3_h, .bit_3_l, .bit_3_mhl, .bit_3_a]

/-- Row 6x of the prefixed table (R113). -/
def prefixedRow6 : List Instr :=
  [.bit_4_b, .bit_4_c, .bit_4_d, .bit_4_e, .bit_4_h, .bit_4_l, .bit_4_mhl, .bit_4_a,
   .bit_5_b, .bit_5_c, .bit_5_d, .bit_5_e, .bit_5_h, .bit_5_l, .bit_5_mhl, .bit_5_a]

/-- Row 7x of the prefixed table (R113). -/
def prefixedRow7 : List Instr :=
  [.bit_6_b, .bit_6_c, .bit_6_d, .bit_6_e, .bit_6_h, .bit_6_l, .bit_6_mhl, .bit_6_a,
   .bit_7_b, .bit_7_c, .bit_7_d, .bit_7_e, .bit_7_h, .bit_7_l, .bit_7_mhl, .bit_7_a]

/-- Row 8x of the prefixed table (R113). -/
def prefixedRow8 : List Instr :=
  [.res_0_b, .res_0_c, .res_0_d, .res_0_e, .res_0_h, .res_0_l, .res_0_mhl, .res_0_a,
   .res_1_b, .res_1_c, .res_1_d, .res_1_e, .res_1_h, .res_1_l, .res_1_mhl, .res_1_a]

/-- Row 9x of the prefixed table (R113). -/
def prefixedRow9 : List Instr :=
  [.res_2_b, .res_2_c, .res_2_d, .res_2_e, .res_2_h, .res_2_l, .res_2_mhl, .res_2_a,
   .res_3_b, .res_3_c, .res_3_d, .res_3_e, .res_3_h, .res_3_l, .res_3_mhl, .res_3_a]

/-- Row Ax of the prefixed table (R113). -/
def prefixedRowA : List Instr :=
  [.res_4_b, .res_4_c, .res_4_d, .res_4_e, .res_4_h, .res_4_l, .res_4_mhl, .res_4_a,
   .res_5_b, .res_5_c, .res_5_d, .res_5_e, .res_5_h, .res_5_l, .res_5_mhl, .res_5_a]

/-- Row Bx of the prefixed table (R113). -/
def prefixedRowB : List Instr :=
  [.res_6_b, .res_6_c, .res_6_d, .res_6_e, .res_6_h, .res_6_l, .res_6_mhl, .res_6_a,
   .res_7_b, .res_7_c, .res_7_d, .res_7_e, .res_7_h, .res_7_l, .res_7_mhl, .res_7_a]

/-- Row Cx of the prefixed table (R113). -/
def prefixedRowC : List Instr :=
  [.set_0_b, .set_0_c, .set_0_d, .set_0_e, .set_0_h, .set_0_l, .set_0_mhl, .set_0_a,
   .set_1_b, .set_1_c, .set_1_d, .set_1_e, .set_1_h, .set_1_l, .set_1_mhl, .set_1_a]

/-- Row Dx of the prefixed table (R113). -/
def prefixedRowD : List Instr :=
  [.set_2_b, .set_2_c, .set_2_d, .set_2_e, .set_2_h, .set_2_l, .set_2_mhl, .set_2_a,
   .set_3_b, .set_3_c, .set_3_d, .set_3_e, .set_3_h, .set_3_l, .set_3_mhl, .set_3_a]

/-- Row Ex of the prefixed table (R113). -/
def prefixedRowE : List Instr :=
  [.set_4_b, .set_4_c, .set_4_d, .set_4_e, .set_4_h, .set_4_l, .set_4_mhl, .set_4_a,
   .set_5_b, .set_5_c, .set_5_d, .set_5_e, .set_5_h, .set_5_l, .set_5_mhl, .set_5_a]

/-- Row Fx of the prefixed table (R113). -/
def prefixedRowF : List Instr :=
  [.set_6_b, .set_6_c, .set_6_d, .set_6_e, .set_6_h, .set_6_l, .set_6_mhl, .set_6_a,
   .set_7_b, .set_7_c, .set_7_d, .set_7_e, .set_7_h, .set_7_l, .set_7_mhl, .set_7_a]

/-- The prefixed table, one row for each high nibble of the second byte (R113). -/
def prefixedGrid : List (List Instr) :=
  [prefixedRow0, prefixedRow1, prefixedRow2, prefixedRow3, prefixedRow4, prefixedRow5, prefixedRow6, prefixedRow7,
   prefixedRow8, prefixedRow9, prefixedRowA, prefixedRowB, prefixedRowC, prefixedRowD, prefixedRowE, prefixedRowF]

/-- Sixteen rows of sixteen: every byte has its cell (R107: decoding is total). -/
theorem prefixedGrid_length : prefixedGrid.length = 16 := rfl

/-- Sixteen rows of sixteen: every byte has its cell (R107: decoding is total). -/
theorem prefixedGrid_row_length (r) (h : r ∈ prefixedGrid) : r.length = 16 := by
  simp only [prefixedGrid, List.mem_cons, List.not_mem_nil, or_false] at h
  rcases h with rfl | rfl | rfl | rfl | rfl | rfl | rfl | rfl | rfl | rfl | rfl | rfl | rfl | rfl | rfl | rfl <;> rfl

/-- The instruction a second byte after the marker selects (R113): all 256 are instructions. -/
def prefixedEntry (op2 : Byte) : Instr :=
  gridCell prefixedGrid prefixedGrid_length prefixedGrid_row_length op2

/-- Why a list of bytes is no instruction. -/
inductive DecodeError where
  /-- The list ends before the instruction does. -/
  | truncated
deriving DecidableEq, Repr

/-- What decoding a list of bytes gives. -/
inductive Decoded where
  /-- The instruction and the bytes after it. -/
  | ok (i : Instr) (rest : List Byte)
  /-- No instruction, and why. -/
  | rejected (why : DecodeError)
deriving DecidableEq, Repr

/-- The decoding procedure of R107 with the immediates of R106, on a list of bytes. -/
def decode : List Byte → Decoded
  | [] => .rejected .truncated
  | op :: rest =>
    match baseEntry op, rest with
    | .plain i, rest => .ok i rest
    | .byte f, n :: rest => .ok (f n) rest
    | .word f, lo :: hi :: rest => .ok (f (word lo hi)) rest
    | .marker, op2 :: rest => .ok (prefixedEntry op2) rest
    | _, _ => .rejected .truncated

/-- The bytes of an instruction, lowest address first (R101, R112, R113). -/
def encode : Instr → List Byte
  | .nop => [0x00]
  | .ld_bc_n16 n => [0x01, loByte n, hiByte n]
  | .ld_mbc_a => [0x02]
  | .inc_bc => [0x03]
  | .inc_b => [0x04]
  | .dec_b => [0x05]
  | .ld_b_n8 n => [0x06, n]
  | .rlca => [0x07]
  | .ld_ma16_sp a => [0x08, loByte a, hiByte a]
  | .add_hl_bc => [0x09]
  | .ld_a_mbc => [0x0A]
  | .dec_bc => [0x0B]
  | .inc_c => [0x0C]
  | .dec_c => [0x0D]
  | .ld_c_n8 n => [0x0E, n]
  | .rrca => [0x0F]
  | .stop_n8 n => [0x10, n]
  | .ld_de_n16 n => [0x11, loByte n, hiByte n]
  | .ld_mde_a => [0x12]
  | .inc_de => [0x13]
  | .inc_d => [0x14]
  | .dec_d => [0x15]
  | .ld_d_n8 n => [0x16, n]
  | .rla => [0x17]
  | .jr_e8 e => [0x18, e]
  | .add_hl_de => [0x19]
  | .ld_a_mde => [0x1A]
  | .dec_de => [0x1B]
  | .inc_e => [0x1C]
  | .dec_e => [0x1D]
  | .ld_e_n8 n => [0x1E, n]
  | .rra => [0x1F]
  | .jr_nz_e8 e => [0x20, e]
  | .ld_hl_n16 n => [0x21, loByte n, hiByte n]
  | .ld_mhli_a => [0x22]
  | .inc_hl => [0x23]
  | .inc_h => [0x24]
  | .dec_h => [0x25]
  | .ld_h_n8 n => [0x26, n]
  | .daa => [0x27]
  | .jr_z_e8 e => [0x28, e]
  | .add_hl_hl => [0x29]
  | .ld_a_mhli => [0x2A]
  | .dec_hl => [0x2B]
  | .inc_l => [0x2C]
  | .dec_l => [0x2D]
  | .ld_l_n8 n => [0x2E, n]
  | .cpl => [0x2F]
  | .jr_nc_e8 e => [0x30, e]
  | .ld_sp_n16 n => [0x31, loByte n, hiByte n]
  | .ld_mhld_a => [0x32]
  | .inc_sp => [0x33]
  | .inc_mhl => [0x34]
  | .dec_mhl => [0x35]
  | .ld_mhl_n8 n => [0x36, n]
  | .scf => [0x37]
  | .jr_c_e8 e => [0x38, e]
  | .add_hl_sp => [0x39]
  | .ld_a_mhld => [0x3A]
  | .dec_sp => [0x3B]
  | .inc_a => [0x3C]
  | .dec_a => [0x3D]
  | .ld_a_n8 n => [0x3E, n]
  | .ccf => [0x3F]
  | .ld_b_b => [0x40]
  | .ld_b_c => [0x41]
  | .ld_b_d => [0x42]
  | .ld_b_e => [0x43]
  | .ld_b_h => [0x44]
  | .ld_b_l => [0x45]
  | .ld_b_mhl => [0x46]
  | .ld_b_a => [0x47]
  | .ld_c_b => [0x48]
  | .ld_c_c => [0x49]
  | .ld_c_d => [0x4A]
  | .ld_c_e => [0x4B]
  | .ld_c_h => [0x4C]
  | .ld_c_l => [0x4D]
  | .ld_c_mhl => [0x4E]
  | .ld_c_a => [0x4F]
  | .ld_d_b => [0x50]
  | .ld_d_c => [0x51]
  | .ld_d_d => [0x52]
  | .ld_d_e => [0x53]
  | .ld_d_h => [0x54]
  | .ld_d_l => [0x55]
  | .ld_d_mhl => [0x56]
  | .ld_d_a => [0x57]
  | .ld_e_b => [0x58]
  | .ld_e_c => [0x59]
  | .ld_e_d => [0x5A]
  | .ld_e_e => [0x5B]
  | .ld_e_h => [0x5C]
  | .ld_e_l => [0x5D]
  | .ld_e_mhl => [0x5E]
  | .ld_e_a => [0x5F]
  | .ld_h_b => [0x60]
  | .ld_h_c => [0x61]
  | .ld_h_d => [0x62]
  | .ld_h_e => [0x63]
  | .ld_h_h => [0x64]
  | .ld_h_l => [0x65]
  | .ld_h_mhl => [0x66]
  | .ld_h_a => [0x67]
  | .ld_l_b => [0x68]
  | .ld_l_c => [0x69]
  | .ld_l_d => [0x6A]
  | .ld_l_e => [0x6B]
  | .ld_l_h => [0x6C]
  | .ld_l_l => [0x6D]
  | .ld_l_mhl => [0x6E]
  | .ld_l_a => [0x6F]
  | .ld_mhl_b => [0x70]
  | .ld_mhl_c => [0x71]
  | .ld_mhl_d => [0x72]
  | .ld_mhl_e => [0x73]
  | .ld_mhl_h => [0x74]
  | .ld_mhl_l => [0x75]
  | .halt => [0x76]
  | .ld_mhl_a => [0x77]
  | .ld_a_b => [0x78]
  | .ld_a_c => [0x79]
  | .ld_a_d => [0x7A]
  | .ld_a_e => [0x7B]
  | .ld_a_h => [0x7C]
  | .ld_a_l => [0x7D]
  | .ld_a_mhl => [0x7E]
  | .ld_a_a => [0x7F]
  | .add_a_b => [0x80]
  | .add_a_c => [0x81]
  | .add_a_d => [0x82]
  | .add_a_e => [0x83]
  | .add_a_h => [0x84]
  | .add_a_l => [0x85]
  | .add_a_mhl => [0x86]
  | .add_a_a => [0x87]
  | .adc_a_b => [0x88]
  | .adc_a_c => [0x89]
  | .adc_a_d => [0x8A]
  | .adc_a_e => [0x8B]
  | .adc_a_h => [0x8C]
  | .adc_a_l => [0x8D]
  | .adc_a_mhl => [0x8E]
  | .adc_a_a => [0x8F]
  | .sub_a_b => [0x90]
  | .sub_a_c => [0x91]
  | .sub_a_d => [0x92]
  | .sub_a_e => [0x93]
  | .sub_a_h => [0x94]
  | .sub_a_l => [0x95]
  | .sub_a_mhl => [0x96]
  | .sub_a_a => [0x97]
  | .sbc_a_b => [0x98]
  | .sbc_a_c => [0x99]
  | .sbc_a_d => [0x9A]
  | .sbc_a_e => [0x9B]
  | .sbc_a_h => [0x9C]
  | .sbc_a_l => [0x9D]
  | .sbc_a_mhl => [0x9E]
  | .sbc_a_a => [0x9F]
  | .and_a_b => [0xA0]
  | .and_a_c => [0xA1]
  | .and_a_d => [0xA2]
  | .and_a_e => [0xA3]
  | .and_a_h => [0xA4]
  | .and_a_l => [0xA5]
  | .and_a_mhl => [0xA6]
  | .and_a_a => [0xA7]
  | .xor_a_b => [0xA8]
  | .xor_a_c => [0xA9]
  | .xor_a_d => [0xAA]
  | .xor_a_e => [0xAB]
  | .xor_a_h => [0xAC]
  | .xor_a_l => [0xAD]
  | .xor_a_mhl => [0xAE]
  | .xor_a_a => [0xAF]
  | .or_a_b => [0xB0]
  | .or_a_c => [0xB1]
  | .or_a_d => [0xB2]
  | .or_a_e => [0xB3]
  | .or_a_h => [0xB4]
  | .or_a_l => [0xB5]
  | .or_a_mhl => [0xB6]
  | .or_a_a => [0xB7]
  | .cp_a_b => [0xB8]
  | .cp_a_c => [0xB9]
  | .cp_a_d => [0xBA]
  | .cp_a_e => [0xBB]
  | .cp_a_h => [0xBC]
  | .cp_a_l => [0xBD]
  | .cp_a_mhl => [0xBE]
  | .cp_a_a => [0xBF]
  | .ret_nz => [0xC0]
  | .pop_bc => [0xC1]
  | .jp_nz_a16 a => [0xC2, loByte a, hiByte a]
  | .jp_a16 a => [0xC3, loByte a, hiByte a]
  | .call_nz_a16 a => [0xC4, loByte a, hiByte a]
  | .push_bc => [0xC5]
  | .add_a_n8 n => [0xC6, n]
  | .rst_00 => [0xC7]
  | .ret_z => [0xC8]
  | .ret => [0xC9]
  | .jp_z_a16 a => [0xCA, loByte a, hiByte a]
  | .prefix_cb => [0xCB]
  | .call_z_a16 a => [0xCC, loByte a, hiByte a]
  | .call_a16 a => [0xCD, loByte a, hiByte a]
  | .adc_a_n8 n => [0xCE, n]
  | .rst_08 => [0xCF]
  | .ret_nc => [0xD0]
  | .pop_de => [0xD1]
  | .jp_nc_a16 a => [0xD2, loByte a, hiByte a]
  | .illegal_d3 => [0xD3]
  | .call_nc_a16 a => [0xD4, loByte a, hiByte a]
  | .push_de => [0xD5]
  | .sub_a_n8 n => [0xD6, n]
  | .rst_10 => [0xD7]
  | .ret_c => [0xD8]
  | .reti => [0xD9]
  | .jp_c_a16 a => [0xDA, loByte a, hiByte a]
  | .illegal_db => [0xDB]
  | .call_c_a16 a => [0xDC, loByte a, hiByte a]
  | .illegal_dd => [0xDD]
  | .sbc_a_n8 n => [0xDE, n]
  | .rst_18 => [0xDF]
  | .ldh_ma8_a n => [0xE0, n]
  | .pop_hl => [0xE1]
  | .ldh_mc_a => [0xE2]
  | .illegal_e3 => [0xE3]
  | .illegal_e4 => [0xE4]
  | .push_hl => [0xE5]
  | .and_a_n8 n => [0xE6, n]
  | .rst_20 => [0xE7]
  | .add_sp_e8 e => [0xE8, e]
  | .jp_hl => [0xE9]
  | .ld_ma16_a a => [0xEA, loByte a, hiByte a]
  | .illegal_eb => [0xEB]
  | .illegal_ec => [0xEC]
  | .illegal_ed => [0xED]
  | .xor_a_n8 n => [0xEE, n]
  | .rst_28 => [0xEF]
  | .ldh_a_ma8 n => [0xF0, n]
  | .pop_af => [0xF1]
  | .ldh_a_mc => [0xF2]
  | .di => [0xF3]
  | .illegal_f4 => [0xF4]
  | .push_af => [0xF5]
  | .or_a_n8 n => [0xF6, n]
  | .rst_30 => [0xF7]
  | .ld_hl_sp_e8 e => [0xF8, e]
  | .ld_sp_hl => [0xF9]
  | .ld_a_ma16 a => [0xFA, loByte a, hiByte a]
  | .ei => [0xFB]
  | .illegal_fc => [0xFC]
  | .illegal_fd => [0xFD]
  | .cp_a_n8 n => [0xFE, n]
  | .rst_38 => [0xFF]
  | .rlc_b => [0xCB, 0x00]
  | .rlc_c => [0xCB, 0x01]
  | .rlc_d => [0xCB, 0x02]
  | .rlc_e => [0xCB, 0x03]
  | .rlc_h => [0xCB, 0x04]
  | .rlc_l => [0xCB, 0x05]
  | .rlc_mhl => [0xCB, 0x06]
  | .rlc_a => [0xCB, 0x07]
  | .rrc_b => [0xCB, 0x08]
  | .rrc_c => [0xCB, 0x09]
  | .rrc_d => [0xCB, 0x0A]
  | .rrc_e => [0xCB, 0x0B]
  | .rrc_h => [0xCB, 0x0C]
  | .rrc_l => [0xCB, 0x0D]
  | .rrc_mhl => [0xCB, 0x0E]
  | .rrc_a => [0xCB, 0x0F]
  | .rl_b => [0xCB, 0x10]
  | .rl_c => [0xCB, 0x11]
  | .rl_d => [0xCB, 0x12]
  | .rl_e => [0xCB, 0x13]
  | .rl_h => [0xCB, 0x14]
  | .rl_l => [0xCB, 0x15]
  | .rl_mhl => [0xCB, 0x16]
  | .rl_a => [0xCB, 0x17]
  | .rr_b => [0xCB, 0x18]
  | .rr_c => [0xCB, 0x19]
  | .rr_d => [0xCB, 0x1A]
  | .rr_e => [0xCB, 0x1B]
  | .rr_h => [0xCB, 0x1C]
  | .rr_l => [0xCB, 0x1D]
  | .rr_mhl => [0xCB, 0x1E]
  | .rr_a => [0xCB, 0x1F]
  | .sla_b => [0xCB, 0x20]
  | .sla_c => [0xCB, 0x21]
  | .sla_d => [0xCB, 0x22]
  | .sla_e => [0xCB, 0x23]
  | .sla_h => [0xCB, 0x24]
  | .sla_l => [0xCB, 0x25]
  | .sla_mhl => [0xCB, 0x26]
  | .sla_a => [0xCB, 0x27]
  | .sra_b => [0xCB, 0x28]
  | .sra_c => [0xCB, 0x29]
  | .sra_d => [0xCB, 0x2A]
  | .sra_e => [0xCB, 0x2B]
  | .sra_h => [0xCB, 0x2C]
  | .sra_l => [0xCB, 0x2D]
  | .sra_mhl => [0xCB, 0x2E]
  | .sra_a => [0xCB, 0x2F]
  | .swap_b => [0xCB, 0x30]
  | .swap_c => [0xCB, 0x31]
  | .swap_d => [0xCB, 0x32]
  | .swap_e => [0xCB, 0x33]
  | .swap_h => [0xCB, 0x34]
  | .swap_l => [0xCB, 0x35]
  | .swap_mhl => [0xCB, 0x36]
  | .swap_a => [0xCB, 0x37]
  | .srl_b => [0xCB, 0x38]
  | .srl_c => [0xCB, 0x39]
  | .srl_d => [0xCB, 0x3A]
  | .srl_e => [0xCB, 0x3B]
  | .srl_h => [0xCB, 0x3C]
  | .srl_l => [0xCB, 0x3D]
  | .srl_mhl => [0xCB, 0x3E]
  | .srl_a => [0xCB, 0x3F]
  | .bit_0_b => [0xCB, 0x40]
  | .bit_0_c => [0xCB, 0x41]
  | .bit_0_d => [0xCB, 0x42]
  | .bit_0_e => [0xCB, 0x43]
  | .bit_0_h => [0xCB, 0x44]
  | .bit_0_l => [0xCB, 0x45]
  | .bit_0_mhl => [0xCB, 0x46]
  | .bit_0_a => [0xCB, 0x47]
  | .bit_1_b => [0xCB, 0x48]
  | .bit_1_c => [0xCB, 0x49]
  | .bit_1_d => [0xCB, 0x4A]
  | .bit_1_e => [0xCB, 0x4B]
  | .bit_1_h => [0xCB, 0x4C]
  | .bit_1_l => [0xCB, 0x4D]
  | .bit_1_mhl => [0xCB, 0x4E]
  | .bit_1_a => [0xCB, 0x4F]
  | .bit_2_b => [0xCB, 0x50]
  | .bit_2_c => [0xCB, 0x51]
  | .bit_2_d => [0xCB, 0x52]
  | .bit_2_e => [0xCB, 0x53]
  | .bit_2_h => [0xCB, 0x54]
  | .bit_2_l => [0xCB, 0x55]
  | .bit_2_mhl => [0xCB, 0x56]
  | .bit_2_a => [0xCB, 0x57]
  | .bit_3_b => [0xCB, 0x58]
  | .bit_3_c => [0xCB, 0x59]
  | .bit_3_d => [0xCB, 0x5A]
  | .bit_3_e => [0xCB, 0x5B]
  | .bit_3_h => [0xCB, 0x5C]
  | .bit_3_l => [0xCB, 0x5D]
  | .bit_3_mhl => [0xCB, 0x5E]
  | .bit_3_a => [0xCB, 0x5F]
  | .bit_4_b => [0xCB, 0x60]
  | .bit_4_c => [0xCB, 0x61]
  | .bit_4_d => [0xCB, 0x62]
  | .bit_4_e => [0xCB, 0x63]
  | .bit_4_h => [0xCB, 0x64]
  | .bit_4_l => [0xCB, 0x65]
  | .bit_4_mhl => [0xCB, 0x66]
  | .bit_4_a => [0xCB, 0x67]
  | .bit_5_b => [0xCB, 0x68]
  | .bit_5_c => [0xCB, 0x69]
  | .bit_5_d => [0xCB, 0x6A]
  | .bit_5_e => [0xCB, 0x6B]
  | .bit_5_h => [0xCB, 0x6C]
  | .bit_5_l => [0xCB, 0x6D]
  | .bit_5_mhl => [0xCB, 0x6E]
  | .bit_5_a => [0xCB, 0x6F]
  | .bit_6_b => [0xCB, 0x70]
  | .bit_6_c => [0xCB, 0x71]
  | .bit_6_d => [0xCB, 0x72]
  | .bit_6_e => [0xCB, 0x73]
  | .bit_6_h => [0xCB, 0x74]
  | .bit_6_l => [0xCB, 0x75]
  | .bit_6_mhl => [0xCB, 0x76]
  | .bit_6_a => [0xCB, 0x77]
  | .bit_7_b => [0xCB, 0x78]
  | .bit_7_c => [0xCB, 0x79]
  | .bit_7_d => [0xCB, 0x7A]
  | .bit_7_e => [0xCB, 0x7B]
  | .bit_7_h => [0xCB, 0x7C]
  | .bit_7_l => [0xCB, 0x7D]
  | .bit_7_mhl => [0xCB, 0x7E]
  | .bit_7_a => [0xCB, 0x7F]
  | .res_0_b => [0xCB, 0x80]
  | .res_0_c => [0xCB, 0x81]
  | .res_0_d => [0xCB, 0x82]
  | .res_0_e => [0xCB, 0x83]
  | .res_0_h => [0xCB, 0x84]
  | .res_0_l => [0xCB, 0x85]
  | .res_0_mhl => [0xCB, 0x86]
  | .res_0_a => [0xCB, 0x87]
  | .res_1_b => [0xCB, 0x88]
  | .res_1_c => [0xCB, 0x89]
  | .res_1_d => [0xCB, 0x8A]
  | .res_1_e => [0xCB, 0x8B]
  | .res_1_h => [0xCB, 0x8C]
  | .res_1_l => [0xCB, 0x8D]
  | .res_1_mhl => [0xCB, 0x8E]
  | .res_1_a => [0xCB, 0x8F]
  | .res_2_b => [0xCB, 0x90]
  | .res_2_c => [0xCB, 0x91]
  | .res_2_d => [0xCB, 0x92]
  | .res_2_e => [0xCB, 0x93]
  | .res_2_h => [0xCB, 0x94]
  | .res_2_l => [0xCB, 0x95]
  | .res_2_mhl => [0xCB, 0x96]
  | .res_2_a => [0xCB, 0x97]
  | .res_3_b => [0xCB, 0x98]
  | .res_3_c => [0xCB, 0x99]
  | .res_3_d => [0xCB, 0x9A]
  | .res_3_e => [0xCB, 0x9B]
  | .res_3_h => [0xCB, 0x9C]
  | .res_3_l => [0xCB, 0x9D]
  | .res_3_mhl => [0xCB, 0x9E]
  | .res_3_a => [0xCB, 0x9F]
  | .res_4_b => [0xCB, 0xA0]
  | .res_4_c => [0xCB, 0xA1]
  | .res_4_d => [0xCB, 0xA2]
  | .res_4_e => [0xCB, 0xA3]
  | .res_4_h => [0xCB, 0xA4]
  | .res_4_l => [0xCB, 0xA5]
  | .res_4_mhl => [0xCB, 0xA6]
  | .res_4_a => [0xCB, 0xA7]
  | .res_5_b => [0xCB, 0xA8]
  | .res_5_c => [0xCB, 0xA9]
  | .res_5_d => [0xCB, 0xAA]
  | .res_5_e => [0xCB, 0xAB]
  | .res_5_h => [0xCB, 0xAC]
  | .res_5_l => [0xCB, 0xAD]
  | .res_5_mhl => [0xCB, 0xAE]
  | .res_5_a => [0xCB, 0xAF]
  | .res_6_b => [0xCB, 0xB0]
  | .res_6_c => [0xCB, 0xB1]
  | .res_6_d => [0xCB, 0xB2]
  | .res_6_e => [0xCB, 0xB3]
  | .res_6_h => [0xCB, 0xB4]
  | .res_6_l => [0xCB, 0xB5]
  | .res_6_mhl => [0xCB, 0xB6]
  | .res_6_a => [0xCB, 0xB7]
  | .res_7_b => [0xCB, 0xB8]
  | .res_7_c => [0xCB, 0xB9]
  | .res_7_d => [0xCB, 0xBA]
  | .res_7_e => [0xCB, 0xBB]
  | .res_7_h => [0xCB, 0xBC]
  | .res_7_l => [0xCB, 0xBD]
  | .res_7_mhl => [0xCB, 0xBE]
  | .res_7_a => [0xCB, 0xBF]
  | .set_0_b => [0xCB, 0xC0]
  | .set_0_c => [0xCB, 0xC1]
  | .set_0_d => [0xCB, 0xC2]
  | .set_0_e => [0xCB, 0xC3]
  | .set_0_h => [0xCB, 0xC4]
  | .set_0_l => [0xCB, 0xC5]
  | .set_0_mhl => [0xCB, 0xC6]
  | .set_0_a => [0xCB, 0xC7]
  | .set_1_b => [0xCB, 0xC8]
  | .set_1_c => [0xCB, 0xC9]
  | .set_1_d => [0xCB, 0xCA]
  | .set_1_e => [0xCB, 0xCB]
  | .set_1_h => [0xCB, 0xCC]
  | .set_1_l => [0xCB, 0xCD]
  | .set_1_mhl => [0xCB, 0xCE]
  | .set_1_a => [0xCB, 0xCF]
  | .set_2_b => [0xCB, 0xD0]
  | .set_2_c => [0xCB, 0xD1]
  | .set_2_d => [0xCB, 0xD2]
  | .set_2_e => [0xCB, 0xD3]
  | .set_2_h => [0xCB, 0xD4]
  | .set_2_l => [0xCB, 0xD5]
  | .set_2_mhl => [0xCB, 0xD6]
  | .set_2_a => [0xCB, 0xD7]
  | .set_3_b => [0xCB, 0xD8]
  | .set_3_c => [0xCB, 0xD9]
  | .set_3_d => [0xCB, 0xDA]
  | .set_3_e => [0xCB, 0xDB]
  | .set_3_h => [0xCB, 0xDC]
  | .set_3_l => [0xCB, 0xDD]
  | .set_3_mhl => [0xCB, 0xDE]
  | .set_3_a => [0xCB, 0xDF]
  | .set_4_b => [0xCB, 0xE0]
  | .set_4_c => [0xCB, 0xE1]
  | .set_4_d => [0xCB, 0xE2]
  | .set_4_e => [0xCB, 0xE3]
  | .set_4_h => [0xCB, 0xE4]
  | .set_4_l => [0xCB, 0xE5]
  | .set_4_mhl => [0xCB, 0xE6]
  | .set_4_a => [0xCB, 0xE7]
  | .set_5_b => [0xCB, 0xE8]
  | .set_5_c => [0xCB, 0xE9]
  | .set_5_d => [0xCB, 0xEA]
  | .set_5_e => [0xCB, 0xEB]
  | .set_5_h => [0xCB, 0xEC]
  | .set_5_l => [0xCB, 0xED]
  | .set_5_mhl => [0xCB, 0xEE]
  | .set_5_a => [0xCB, 0xEF]
  | .set_6_b => [0xCB, 0xF0]
  | .set_6_c => [0xCB, 0xF1]
  | .set_6_d => [0xCB, 0xF2]
  | .set_6_e => [0xCB, 0xF3]
  | .set_6_h => [0xCB, 0xF4]
  | .set_6_l => [0xCB, 0xF5]
  | .set_6_mhl => [0xCB, 0xF6]
  | .set_6_a => [0xCB, 0xF7]
  | .set_7_b => [0xCB, 0xF8]
  | .set_7_c => [0xCB, 0xF9]
  | .set_7_d => [0xCB, 0xFA]
  | .set_7_e => [0xCB, 0xFB]
  | .set_7_h => [0xCB, 0xFC]
  | .set_7_l => [0xCB, 0xFD]
  | .set_7_mhl => [0xCB, 0xFE]
  | .set_7_a => [0xCB, 0xFF]

/-- The bytes, lowest address first, of an instruction given as the number of
spec/opcode_table.json (R119; log entry 9): a prefixed row's 16-bit number is
`(byte0 << 8) | byte1` with byte0 = 0xCB; every other row's first byte is bits 7:0 and later bytes
count on from it. The bytes above `nbits` are zero. -/
def tableBytes (nbits w : Nat) : List Byte :=
  let v := w % 2 ^ nbits
  if nbits = 16 ∧ v / 256 = 0xCB then [0xCB, BitVec.ofNat 8 v, 0]
  else [BitVec.ofNat 8 v, BitVec.ofNat 8 (v / 256), BitVec.ofNat 8 (v / 65536)]

/-- The number by which the opcode table knows the row of an instruction (R119): its opcode byte, or for
a prefixed row `(byte0 << 8) | byte1`. -/
def Instr.tableNumber (i : Instr) : Nat :=
  match encode i with
  | [] => 0
  | [b] => b.toNat
  | b :: b2 :: _ => if b = 0xCB then 0xCB00 + b2.toNat else b.toNat

/-- What the decoder reads from an instruction given as the opcode table numbers it. -/
def decodeTableWord (nbits w : Nat) : Option Instr :=
  match decode (tableBytes nbits w) with
  | .ok i _ => some i
  | .rejected _ => none

end Sys2Proof
end

