-- ==== Sys2Proof/Config.lean ====
section
/-!
DEFINITION. The parameters of 00_scope.md R6 that the document itself fixes, and what a byte of
memory that nothing has written reads as (log entry 2). The parameters R6 leaves open, the model's
arguments, are data of `Machine.Platform`.
-/

namespace Sys2Proof

/-- `MEM_SIZE`: bytes in the address space (R6, R62). -/
def memSize : Nat := 65536

/-- What an unlisted byte of storage or of an image reads as: `mem[a]` is 0x00 after reset for every
a (R350), and a missing or short image is padded with 0x00 (R354). -/
def unlistedByte : Byte := 0x00

/-- `BOOT_TOP`: last address of the boot overlay (R6). -/
def bootTop : Word := 0x00FF
/-- `ROM_TOP`: last address of cartridge ROM (R6). -/
def romTop : Word := 0x7FFF

/-- The used bits of IE and IF (R304). -/
def usedInterrupts : Byte := 0x1F

/-- The cost of one HALT idle step (R330). -/
def idleCycles : Nat := 1

/-- `TIMA_PERIOD[0..3]` (R6, R35): machine cycles per timer-counter increment. -/
def timaPeriod (rate : BitVec 2) : Nat :=
  match rate.toNat with
  | 0 => 256
  | 1 => 4
  | 2 => 16
  | _ => 64

end Sys2Proof
end

