-- ==== Sys2Proof/Machine/State.lean ====
section
/-!
DEFINITION. The state of the CORE as plain data (10_state.md R49 lists it whole), the state after
reset (70_reset_and_hazards.md R350), and the reasons a step can stop.
-/

namespace Sys2Proof.Machine

open Sys2Proof

/-- A store of bytes: (address, byte) pairs, addresses strictly rising, no byte equal to
`unlistedByte`, which is what an unlisted address reads as. -/
abbrev Memory := List Host.Cell

/-- The driver mode at a FETCH boundary (R43, R121). -/
inductive Mode where
  | run | halt | stopped
deriving DecidableEq, Repr

/-- The five interrupt sources, lowest number first (R301). -/
inductive Source where
  | vblank | lcd | timer | serial | joypad
deriving DecidableEq, Repr

/-- The moves of the external collaborators (R322 to R325); there are no others (R12). -/
inductive Move where
  /-- `setVramBlocked(b)` (R322). -/
  | setVramBlocked (b : Bool)
  /-- `setOamBlocked(b)` (R323). -/
  | setOamBlocked (b : Bool)
  /-- The collaborator's store of LY (R324). -/
  | storeLy (v : Byte)
  /-- `RequestInterrupt(0)` (R325). -/
  | requestVblank
  /-- `RequestInterrupt(1)` (R325). -/
  | requestLcd
  /-- `RequestInterrupt(4)` (R325). -/
  | requestJoypad
deriving DecidableEq, Repr

/-- `UnmappedOpcode(op, addr)`: an entry of `REPORTS` (R47, R286). -/
structure Report where
  op : Byte
  addr : Word
deriving DecidableEq, Repr

/-- The configuration that is supplied before reset and that no instruction and no move changes: the
images and the parameters of R6 that the model takes as arguments (R6, R42, R76, R104, R352). It is
held as data so that a statement about every state is about every configuration (log entries 1, 3
and 4). -/
structure Platform where
  /-- `BOOT_IMAGE`; a byte it does not list is 0x00 (R42, R354). -/
  bootImage : Memory
  /-- `CART_IMAGE`; a byte it does not list is 0x00 (R42, R354). -/
  cartImage : Memory
  /-- `DIV_WRITE_CLEARS_PRESCALER` (R6, R69). -/
  divWriteClearsPrescaler : Bool
  /-- `VRAM_LO`. -/
  vramLo : Word
  /-- `VRAM_HI`. -/
  vramHi : Word
  /-- `OAM_LO`. -/
  oamLo : Word
  /-- `OAM_HI`. -/
  oamHi : Word
  /-- `ADDR_SB`: serial data (R36). -/
  addrSb : Word
  /-- `ADDR_SC`: serial control (R37). -/
  addrSc : Word
  /-- `ADDR_DIV`: divider (R32). -/
  addrDiv : Word
  /-- `ADDR_TIMA`: timer counter (R33). -/
  addrTima : Word
  /-- `ADDR_TMA`: timer modulo (R34). -/
  addrTma : Word
  /-- `ADDR_TAC`: timer control (R35). -/
  addrTac : Word
  /-- `ADDR_IF`: interrupt flags (R31). -/
  addrIf : Word
  /-- `ADDR_LY`: LCD-Y-coordinate (R38). -/
  addrLy : Word
  /-- `ADDR_BOOT_OFF`: boot-ROM-disable latch (R39). -/
  addrBootOff : Word
  /-- `ADDR_IE`: interrupt enable (R30). -/
  addrIe : Word
  /-- `VEC(0)` (R308). -/
  vecVblank : Word
  /-- `VEC(1)`. -/
  vecLcd : Word
  /-- `VEC(2)`. -/
  vecTimer : Word
  /-- `VEC(3)`. -/
  vecSerial : Word
  /-- `VEC(4)`. -/
  vecJoypad : Word
  /-- `DISPATCH_CYCLES` (R307). -/
  dispatchCycles : Nat
  /-- `DIV_PERIOD` (R311). -/
  divPeriod : Nat
  /-- `TAC_ENABLE_BIT` (R35). -/
  tacEnableBit : Nat
  /-- The lower of the two `TAC_RATE_BITS` (R35). -/
  tacRateBit : Nat
  /-- The bytes of `UNMAPPED` beyond the eleven of R114, which have no row in the base table of R112
  in any case. -/
  moreUnmapped : List Byte
  /-- `CYCLES(op)` where it differs from spec/opcode_table.json: the row's number in that table (R119)
  and its two counts, taken first; a row with one count uses the first (R133, R370). -/
  cycleChanges : List (Nat × Nat × Nat)
deriving DecidableEq, Repr

/-- The complete state of the CORE (R49), the platform's configuration, and the collaborators' moves
still to come. -/
structure State where
  a : Byte
  /-- Z bit 7, N bit 6, H bit 5, C bit 4 (R26). -/
  f : Byte
  b : Byte
  c : Byte
  d : Byte
  e : Byte
  h : Byte
  l : Byte
  sp : Word
  pc : Word
  /-- IME (R28). -/
  ime : Bool
  /-- `IME_PENDING` (R29). -/
  imePending : Bool
  mode : Mode
  /-- `OVERLAY` (R39). -/
  overlay : Bool
  vramBlocked : Bool
  oamBlocked : Bool
  /-- The live bytes (R41), among them IE, IF, DIV, TIMA, TMA, TAC, SB, SC and LY (R30 to R38). -/
  mem : Memory
  /-- `DIV_PRE` (R45). -/
  divPre : Nat
  /-- `TIMA_PRE` (R45). -/
  timaPre : Nat
  /-- `CYCLES` (R46). -/
  cycles : Nat
  /-- `SERIAL_OUT`, oldest first (R47). -/
  serialOut : List Byte
  /-- `REPORTS`, oldest first (R47). -/
  reports : List Report
  platform : Platform
  /-- The MODEL's own field: the collaborators' moves still to come, one batch for each
  interleaving point of R326, the next one first (log entry 5). -/
  moves : List (List Move)
deriving DecidableEq, Repr

/-- The platform with both images missing (R354) and every parameter at the default of R6. -/
def Platform.default : Platform where
  bootImage := []
  cartImage := []
  divWriteClearsPrescaler := false
  vramLo := 0x8000
  vramHi := 0x9FFF
  oamLo := 0xFE00
  oamHi := 0xFE9F
  addrSb := 0xFF01
  addrSc := 0xFF02
  addrDiv := 0xFF04
  addrTima := 0xFF05
  addrTma := 0xFF06
  addrTac := 0xFF07
  addrIf := 0xFF0F
  addrLy := 0xFF44
  addrBootOff := 0xFF50
  addrIe := 0xFFFF
  vecVblank := 0x0040
  vecLcd := 0x0048
  vecTimer := 0x0050
  vecSerial := 0x0058
  vecJoypad := 0x0060
  dispatchCycles := 5
  divPeriod := 64
  tacEnableBit := 2
  tacRateBit := 0
  moreUnmapped := []
  cycleChanges := []

/-- The state after reset, which is power-on (R350, R351, R352). -/
def State.reset : State where
  a := 0x00
  f := 0x00
  b := 0x00
  c := 0x00
  d := 0x00
  e := 0x00
  h := 0x00
  l := 0x00
  sp := 0x0000
  pc := 0x0000
  ime := false
  imePending := false
  mode := .run
  overlay := true
  vramBlocked := false
  oamBlocked := false
  mem := []
  divPre := 0
  timaPre := 0
  cycles := 0
  serialOut := []
  reports := []
  platform := .default
  moves := []

/-- The reasons a step stops. -/
inductive Fault where
  /-- Raised by `step` alone, when MODE = STOPPED: no driver step is enabled (R120, R282, R332). The
  machine is stuck and only reset leaves it; no collaborator's move is made there (DESIGN CHOICE, log
  entry 28). Safe: nothing can be proved about what follows STOP. -/
  | stopped
deriving DecidableEq, Repr

/-- The reasons the model gives no meaning. -/
inductive Refusal where
  /-- Raised by an arm of `exec` whose instruction has no meaning yet; no arm does. Safe. -/
  | notModelled (mnemonic : String)
deriving DecidableEq, Repr

/-- What executing an instruction or a step answers. -/
abbrev Result := Host.Outcome State Fault Refusal

end Sys2Proof.Machine
end

