-- ==== Sys2Proof/Machine/Ops.lean ====
section
/-!
DEFINITION. The named operations over memory and registers that every instruction uses: the sparse
store, live bytes, the collaborators' moves, the read and write contracts (20_memory.md R60, R64), a
byte access of the CPU, the immediate fetch, the stack helper (42_load16_stack.md R160, R161), and
taking an interrupt and returning from one (60_exceptions.md R307, R309).
-/

namespace Sys2Proof.Machine

open Sys2Proof

/-! ### The sparse store -/

/-- The byte at an address of a store (R41, R350, R354). -/
def Memory.read : Memory → Nat → Byte
  | [], _ => unlistedByte
  | (k, v) :: rest, x => if x = k then v else Memory.read rest x

/-- The store with the byte `w` at address `x`, in canonical form again. -/
def Memory.write : Memory → Nat → Byte → Memory
  | [], x, w => if w = unlistedByte then [] else [(x, w)]
  | (k, v) :: rest, x, w =>
    if x < k then
      if w = unlistedByte then (k, v) :: rest else (x, w) :: (k, v) :: rest
    else if x = k then
      if w = unlistedByte then rest else (x, w) :: rest
    else (k, v) :: Memory.write rest x w

/-- The canonical form: addresses strictly rising and inside the address space, no byte equal to
what an unlisted address reads as. -/
def Memory.wf : Memory → Bool
  | [] => true
  | (k, v) :: rest =>
    decide (k < memSize) && decide (v ≠ unlistedByte) && rest.all (fun c => decide (k < c.1)) &&
      Memory.wf rest

/-! ### Live bytes (R86) -/

/-- `mem[x]`: the live byte itself, bypassing the contracts. -/
def State.live (s : State) (x : Word) : Byte := s.mem.read x.toNat

/-- `mem[x] <- v`: a direct store to the live byte (R86). -/
def State.store (s : State) (x : Word) (v : Byte) : State :=
  { s with mem := s.mem.write x.toNat v }

/-! ### Interrupt requests (R301, R303, R304) -/

/-- The number of a source: its bit in IE and IF (R301). -/
def Source.number : Source → Nat
  | .vblank => 0
  | .lcd => 1
  | .timer => 2
  | .serial => 3
  | .joypad => 4

/-- `1 << n`. -/
def Source.mask (n : Source) : Byte := BitVec.ofNat 8 (2 ^ n.number)

/-- `VEC(n)` (R308). -/
def Platform.vector (p : Platform) : Source → Word
  | .vblank => p.vecVblank
  | .lcd => p.vecLcd
  | .timer => p.vecTimer
  | .serial => p.vecSerial
  | .joypad => p.vecJoypad

/-- `RequestInterrupt(n)` (R303). -/
def State.requestInterrupt (s : State) (n : Source) : State :=
  s.store s.platform.addrIf (s.live s.platform.addrIf ||| n.mask)

/-- The pending set (R304). -/
def State.pending (s : State) : Byte :=
  s.live s.platform.addrIf &&& s.live s.platform.addrIe &&& usedInterrupts

/-- The lowest-numbered source whose bit is set (R314). -/
def lowestSource (p : Byte) : Option Source :=
  if p.getLsbD 0 then some .vblank
  else if p.getLsbD 1 then some .lcd
  else if p.getLsbD 2 then some .timer
  else if p.getLsbD 3 then some .serial
  else if p.getLsbD 4 then some .joypad
  else none

/-! ### The collaborators (R322 to R326) -/

/-- One move. -/
def State.applyMove (s : State) : Move → State
  | .setVramBlocked b => { s with vramBlocked := b }
  | .setOamBlocked b => { s with oamBlocked := b }
  | .storeLy v => s.store s.platform.addrLy v
  | .requestVblank => s.requestInterrupt .vblank
  | .requestLcd => s.requestInterrupt .lcd
  | .requestJoypad => s.requestInterrupt .joypad

/-- A batch of moves, in order. -/
def State.applyMoves (s : State) : List Move → State
  | [] => s
  | m :: ms => (s.applyMove m).applyMoves ms

/-- An interleaving point (R326): the next batch of the schedule is made. -/
def State.takeMoves (s : State) : State :=
  match s.moves with
  | [] => s
  | batch :: rest => { s with moves := rest }.applyMoves batch

/-! ### The two contracts (R60, R64) -/

/-- The object-attribute memory range (R75). -/
def Platform.inOam (p : Platform) (x : Word) : Bool := decide (p.oamLo ≤ x) && decide (x ≤ p.oamHi)

/-- The video RAM range (R75). -/
def Platform.inVram (p : Platform) (x : Word) : Bool :=
  decide (p.vramLo ≤ x) && decide (x ≤ p.vramHi)

/-- `MemRead(x, 1)`: the first case that applies (R60). -/
def State.memRead (s : State) (x : Word) : Byte :=
  if s.platform.inOam x && s.oamBlocked then 0xFF
  else if s.platform.inVram x && s.vramBlocked then 0xFF
  else if s.overlay && decide (x ≤ bootTop) then s.platform.bootImage.read x.toNat
  else if x ≤ romTop then s.platform.cartImage.read x.toNat
  else s.live x

/-- A write to `ADDR_BOOT_OFF` (R65). -/
def State.writeBootOff (s : State) (v : Byte) : State :=
  { s with overlay := false }.store s.platform.addrBootOff v

/-- A write to `ADDR_SC` (R68). -/
def State.writeSc (s : State) (v : Byte) : State :=
  if v.getLsbD 7 then
    ({ s with serialOut := s.serialOut ++ [s.live s.platform.addrSb] }.requestInterrupt .serial).store
      s.platform.addrSc (v &&& 0x7F)
  else s.store s.platform.addrSc v

/-- A write to `ADDR_DIV` (R69). -/
def State.writeDiv (s : State) : State :=
  let t := s.store s.platform.addrDiv 0x00
  if s.platform.divWriteClearsPrescaler then { t with divPre := 0 } else t

/-- `MemWrite(x, 1, v)`: the first case that applies (R64). -/
def State.memWrite (s : State) (x : Word) (v : Byte) : State :=
  if x ≤ romTop then s
  else if s.platform.inOam x && s.oamBlocked then s
  else if s.platform.inVram x && s.vramBlocked then s
  else if x = s.platform.addrBootOff then s.writeBootOff v
  else if x = s.platform.addrSb then s.store s.platform.addrSb v
  else if x = s.platform.addrSc then s.writeSc v
  else if x = s.platform.addrDiv then s.writeDiv
  else s.store x v

/-! ### Byte accesses of the CPU (R74, R80, R124, R127) -/

/-- A Read-memory micro-operation: the collaborators' moves that fall before it, then `MemRead`. -/
def State.busRead (s : State) (x : Word) : Byte × State :=
  let t := s.takeMoves
  (t.memRead x, t)

/-- A Write-memory micro-operation: the collaborators' moves that fall before it, then
`MemWrite`. -/
def State.busWrite (s : State) (x : Word) (v : Byte) : State :=
  s.takeMoves.memWrite x v

/-- `Imm8()`: the opcode fetch and every immediate fetch (R124). -/
def State.imm8 (s : State) : Byte × State :=
  let p := s.busRead s.pc
  (p.1, { p.2 with pc := s.pc + 1 })

/-- `MemWrite(x, 2, v)` as two Write-memory micro-operations, the low byte first (R73). -/
def State.busWrite16 (s : State) (x v : Word) : State :=
  (s.busWrite x (loByte v)).busWrite (x + 1) (hiByte v)

/-- `MemRead(x, 2)` as two Read-memory micro-operations, the low byte first (R72). -/
def State.busRead16 (s : State) (x : Word) : Word × State :=
  let lo := s.busRead x
  let hi := lo.2.busRead (x + 1)
  (word lo.1 hi.1, hi.2)

/-! ### The stack helper (R160, R161) -/

/-- `Push16(v)` (R160). -/
def State.push16 (s : State) (v : Word) : State :=
  { s with sp := s.sp - 2 }.busWrite16 (s.sp - 2) v

/-- `Pop16()` (R161). -/
def State.pop16 (s : State) : Word × State :=
  let p := s.busRead16 s.sp
  (p.1, { p.2 with sp := s.sp + 2 })

/-! ### Taking an interrupt and returning from one -/

/-- `Dispatch(n)`, the hardware's only trap entry (R307): IME and `IME_PENDING` cleared, PC pushed,
bit n of IF cleared, PC at the vector. Nothing else is saved or changed. -/
def State.takeInterrupt (s : State) (n : Source) : State :=
  let t := { s with ime := false, imePending := false }.push16 s.pc
  { t.store s.platform.addrIf (t.live s.platform.addrIf &&& ~~~ n.mask) with
    pc := s.platform.vector n }

/-- The return from a handler that `RETI` makes (R270, R309): PC popped, IME set at once,
`IME_PENDING` cleared. -/
def State.returnFromInterrupt (s : State) : State :=
  let p := s.pop16
  { p.2 with pc := p.1, ime := true, imePending := false }

end Sys2Proof.Machine
end

