-- ==== Sys2Proof/Machine/Flags.lean ====
section
/-!
DEFINITION. The flag byte F, the two passes of flag application (40_engine.md R134, 10_state.md R26,
R27), and the flag calculator with the ALU, rotate and shift functions it goes with (43_alu8.md R181
to R188, R213, R215, R217; 44_alu16.md R225, R228; 45_rotate_shift_bit.md R230).
-/

namespace Sys2Proof.Machine

open Sys2Proof

/-! ### F (R26) -/

/-- The Zero flag of F. -/
def flagZ (f : Byte) : Bool := f.getLsbD 7
/-- The Subtract flag of F. -/
def flagN (f : Byte) : Bool := f.getLsbD 6
/-- The Half-Carry flag of F. -/
def flagH (f : Byte) : Bool := f.getLsbD 5
/-- The Carry flag of F. -/
def flagC (f : Byte) : Bool := f.getLsbD 4

/-- Four flags: what the flag calculator computes (R134). -/
structure Flags where
  z : Bool
  n : Bool
  h : Bool
  c : Bool
deriving DecidableEq, Repr

/-- The four flags of F. -/
def flagsOf (f : Byte) : Flags := ⟨flagZ f, flagN f, flagH f, flagC f⟩

/-- F with its four flags replaced and bits 3:0 as they were (R22, R134). -/
def packFlags (x : Flags) (f : Byte) : Byte :=
  BitVec.ofBool x.z ++ BitVec.ofBool x.n ++ BitVec.ofBool x.h ++ BitVec.ofBool x.c ++
    f.extractLsb' 0 4

/-! ### Policies (R9, R27) -/

/-- What an instruction does to one flag: `-`, `0`, `1`, or the flag's own letter. -/
inductive Slot where
  | keep | zero | one | computed
deriving DecidableEq, Repr

/-- The four-slot policy of an opcode. -/
structure Policy where
  z : Slot
  n : Slot
  h : Slot
  c : Slot
deriving DecidableEq, Repr

/-- `Z0HC`: ADD, ADC. -/
def policyZ0HC : Policy := ⟨.computed, .zero, .computed, .computed⟩
/-- `Z1HC`: SUB, SBC, CP. -/
def policyZ1HC : Policy := ⟨.computed, .one, .computed, .computed⟩
/-- `Z010`: AND. -/
def policyZ010 : Policy := ⟨.computed, .zero, .one, .zero⟩
/-- `Z000`: OR, XOR, SWAP. -/
def policyZ000 : Policy := ⟨.computed, .zero, .zero, .zero⟩
/-- `Z0H-`: 8-bit INC. -/
def policyZ0Hk : Policy := ⟨.computed, .zero, .computed, .keep⟩
/-- `Z1H-`: 8-bit DEC. -/
def policyZ1Hk : Policy := ⟨.computed, .one, .computed, .keep⟩
/-- `Z-0C`: DAA. -/
def policyZk0C : Policy := ⟨.computed, .keep, .zero, .computed⟩
/-- `-11-`: CPL. -/
def policyk11k : Policy := ⟨.keep, .one, .one, .keep⟩
/-- `-001`: SCF. -/
def policyk001 : Policy := ⟨.keep, .zero, .zero, .one⟩
/-- `-00C`: CCF. -/
def policyk00C : Policy := ⟨.keep, .zero, .zero, .computed⟩
/-- `-0HC`: ADD HL,rr. -/
def policyk0HC : Policy := ⟨.keep, .zero, .computed, .computed⟩
/-- `00HC`: ADD SP,e8 and LD HL,SP+e8. -/
def policy00HC : Policy := ⟨.zero, .zero, .computed, .computed⟩
/-- `000C`: RLCA, RRCA, RLA, RRA. -/
def policy000C : Policy := ⟨.zero, .zero, .zero, .computed⟩
/-- `Z00C`: the prefixed rotates and shifts but SWAP. -/
def policyZ00C : Policy := ⟨.computed, .zero, .zero, .computed⟩
/-- `Z01-`: BIT. -/
def policyZ01k : Policy := ⟨.computed, .zero, .one, .keep⟩
/-- `ZNHC`: POP AF. -/
def policyZNHC : Policy := ⟨.computed, .computed, .computed, .computed⟩

/-- One flag after the second pass: `old` before the instruction, `new` computed. -/
def Slot.apply (p : Slot) (old new : Bool) : Bool :=
  match p with
  | .keep => old
  | .zero => false
  | .one => true
  | .computed => new

/-- The second pass of R134: F after an instruction with policy `p` whose computed outcome is `x`. -/
def applyFlags (p : Policy) (x : Flags) (f : Byte) : Byte :=
  packFlags ⟨p.z.apply (flagZ f) x.z, p.n.apply (flagN f) x.n, p.h.apply (flagH f) x.h,
    p.c.apply (flagC f) x.c⟩ f

/-- `ApplyFlags` on the state (R134). -/
def State.withFlags (s : State) (p : Policy) (x : Flags) : State :=
  { s with f := applyFlags p x s.f }

/-! ### The 8-bit ALU (R180 to R188) -/

/-- A result byte and the flags the calculator gives for it. -/
structure AluResult where
  r : Byte
  flags : Flags
deriving DecidableEq, Repr

/-- 0 or 1, the number a flag stands for in arithmetic. -/
def carryIn (b : Bool) : Nat := if b then 1 else 0

/-- `x & 0xF` as a number. -/
def low4 (x : Byte) : Nat := (x &&& 0x0F).toNat

/-- R181. -/
def add8 (x y : Byte) : AluResult :=
  let r : Byte := BitVec.ofNat 8 (x.toNat + y.toNat)
  ⟨r, ⟨r == 0, false, decide (low4 x + low4 y > 0xF), decide (x.toNat + y.toNat > 0xFF)⟩⟩

/-- R182. -/
def adc8 (x y : Byte) (cin : Bool) : AluResult :=
  let r : Byte := BitVec.ofNat 8 (x.toNat + y.toNat + carryIn cin)
  ⟨r, ⟨r == 0, false, decide (low4 x + low4 y + carryIn cin > 0xF),
    decide (x.toNat + y.toNat + carryIn cin > 0xFF)⟩⟩

/-- R183. -/
def sub8 (x y : Byte) : AluResult :=
  let r : Byte := BitVec.ofInt 8 ((x.toNat : Int) - y.toNat)
  ⟨r, ⟨r == 0, true, decide (low4 x < low4 y), decide (y.toNat > x.toNat)⟩⟩

/-- R184. -/
def sbc8 (x y : Byte) (cin : Bool) : AluResult :=
  let r : Byte := BitVec.ofInt 8 ((x.toNat : Int) - y.toNat - carryIn cin)
  ⟨r, ⟨r == 0, true, decide (low4 x < low4 y + carryIn cin), decide (y.toNat + carryIn cin > x.toNat)⟩⟩

/-- R185. -/
def and8 (x y : Byte) : AluResult := ⟨x &&& y, ⟨x &&& y == 0, false, true, false⟩⟩

/-- R186. -/
def xor8 (x y : Byte) : AluResult := ⟨x ^^^ y, ⟨x ^^^ y == 0, false, false, false⟩⟩

/-- R187. -/
def or8 (x y : Byte) : AluResult := ⟨x ||| y, ⟨x ||| y == 0, false, false, false⟩⟩

/-- R188: the flags of `sub8`, and A as it was. -/
def cp8 (x y : Byte) : AluResult := ⟨x, (sub8 x y).flags⟩

/-- The accumulator operation of R111: x is A, y the operand, cin is F.C. -/
def aluCalc (op : AluOp) (x y : Byte) (cin : Bool) : AluResult :=
  match op with
  | .add => add8 x y
  | .adc => adc8 x y cin
  | .sub => sub8 x y
  | .sbc => sbc8 x y cin
  | .and => and8 x y
  | .xor => xor8 x y
  | .or => or8 x y
  | .cp => cp8 x y

/-- The policy of an accumulator operation (R27). -/
def aluPolicy : AluOp → Policy
  | .add => policyZ0HC
  | .adc => policyZ0HC
  | .sub => policyZ1HC
  | .sbc => policyZ1HC
  | .and => policyZ010
  | .xor => policyZ000
  | .or => policyZ000
  | .cp => policyZ1HC

/-- `INC`: r = (x + 1) & 0xFF, H when the low nibble is 0xF (R213, R214). -/
def inc8 (x : Byte) : AluResult :=
  let r : Byte := BitVec.ofNat 8 (x.toNat + 1)
  ⟨r, ⟨r == 0, false, decide (low4 x = 0xF), false⟩⟩

/-- `DEC`: r = (x - 1) & 0xFF, H when the low nibble is 0 (R215, R216). -/
def dec8 (x : Byte) : AluResult :=
  let r : Byte := BitVec.ofInt 8 ((x.toNat : Int) - 1)
  ⟨r, ⟨r == 0, true, decide (low4 x = 0x0), false⟩⟩

/-- The amount `adj` and the carry `cout` of DAA (R217). -/
def daaAdjust (a f : Byte) : Nat × Bool :=
  if flagN f = false then
    let six : Nat := if flagH f || decide (low4 a > 0x09) then 0x06 else 0
    let sixty : Bool := flagC f || decide (a.toNat > 0x99)
    (six + (if sixty then 0x60 else 0), if sixty then true else flagC f)
  else
    ((if flagH f then 0x06 else 0) + (if flagC f then 0x60 else 0), flagC f)

/-- `DAA` (R217). -/
def daa8 (a f : Byte) : AluResult :=
  let adj := daaAdjust a f
  let r : Byte :=
    if flagN f = false then BitVec.ofNat 8 (a.toNat + adj.1)
    else BitVec.ofInt 8 ((a.toNat : Int) - adj.1)
  ⟨r, ⟨r == 0, flagN f, false, adj.2⟩⟩

/-! ### 16-bit flag formulas (R165, R225, R228) -/

/-- H and C of `ADD HL,rr`: carries out of bit 11 and bit 15 (R225). -/
def add16Flags (x y : Word) : Flags :=
  ⟨false, false, decide ((x &&& 0x0FFF).toNat + (y &&& 0x0FFF).toNat > 0x0FFF),
    decide (x.toNat + y.toNat > 0xFFFF)⟩

/-- H and C of `ADD SP,e8` and `LD HL,SP+e8`: those of the unsigned 8-bit addition of the low byte
of SP and the offset byte (R165, R228). -/
def spOffsetFlags (sp : Word) (e : Byte) : Flags :=
  ⟨false, false, decide ((sp &&& 0xF).toNat + low4 e > 0xF),
    decide ((sp &&& 0xFF).toNat + e.toNat > 0xFF)⟩

/-! ### The eight transforms (R230) -/

/-- The result byte of a rotate or shift of v with carry-in cin (R230). -/
def rotResult (op : RotOp) (v : Byte) (cin : Bool) : Byte :=
  match op with
  | .rlc => (v <<< 1) ||| (v >>> 7)
  | .rrc => (v >>> 1) ||| (v <<< 7)
  | .rl => (v <<< 1) ||| BitVec.ofNat 8 (carryIn cin)
  | .rr => (v >>> 1) ||| (BitVec.ofNat 8 (carryIn cin) <<< 7)
  | .sla => v <<< 1
  | .sra => (v >>> 1) ||| (v &&& 0x80)
  | .swap => (v <<< 4) ||| (v >>> 4)
  | .srl => v >>> 1

/-- The carry-out of a rotate or shift: the bit shifted out, 0 for SWAP (R230). -/
def rotCarry (op : RotOp) (v : Byte) : Bool :=
  match op with
  | .rlc | .rl | .sla => v.getLsbD 7
  | .rrc | .rr | .sra | .srl => v.getLsbD 0
  | .swap => false

/-- Result and computed flags of a prefixed rotate or shift (R235 to R250). -/
def rotCalc (op : RotOp) (v : Byte) (cin : Bool) : AluResult :=
  ⟨rotResult op v cin, ⟨rotResult op v cin == 0, false, false, rotCarry op v⟩⟩

/-- `Z00C`, and `Z000` for SWAP (R27, R247). -/
def rotPolicy : RotOp → Policy
  | .rlc => policyZ00C
  | .rrc => policyZ00C
  | .rl => policyZ00C
  | .rr => policyZ00C
  | .sla => policyZ00C
  | .sra => policyZ00C
  | .swap => policyZ000
  | .srl => policyZ00C

end Sys2Proof.Machine
end

