-- ==== Sys2Proof/Machine/Operands.lean ====
section
/-!
DEFINITION. The operand forms (30_encoding.md R106, R108 to R110, 10_state.md R21): 8-bit registers,
register pairs, the stack pairs, conditions, the page-0xFF address and the signed offset. The `(HL)`
operand is always a byte access at address HL (R108) and has no accessor of its own.
-/

namespace Sys2Proof.Machine

open Sys2Proof

/-- `r8[i]` (R108). -/
def State.r8 (s : State) : Reg8 → Byte
  | .b => s.b
  | .c => s.c
  | .d => s.d
  | .e => s.e
  | .h => s.h
  | .l => s.l
  | .a => s.a

/-- `r8[i] <- v` (R108). -/
def State.setR8 (s : State) (r : Reg8) (v : Byte) : State :=
  match r with
  | .b => { s with b := v }
  | .c => { s with c := v }
  | .d => { s with d := v }
  | .e => { s with e := v }
  | .h => { s with h := v }
  | .l => { s with l := v }
  | .a => { s with a := v }

/-- AF (R21). -/
def State.af (s : State) : Word := word s.f s.a
/-- BC (R21). -/
def State.bc (s : State) : Word := word s.c s.b
/-- DE (R21). -/
def State.de (s : State) : Word := word s.e s.d
/-- HL (R21). -/
def State.hl (s : State) : Word := word s.l s.h

/-- HL <- v (R21). -/
def State.setHl (s : State) (v : Word) : State := { s with h := hiByte v, l := loByte v }

/-- `rp[p]` (R109). -/
def State.r16 (s : State) : Pair → Word
  | .bc => s.bc
  | .de => s.de
  | .hl => s.hl
  | .sp => s.sp

/-- `rp[p] <- v` (R21, R109). -/
def State.setR16 (s : State) (p : Pair) (v : Word) : State :=
  match p with
  | .bc => { s with b := hiByte v, c := loByte v }
  | .de => { s with d := hiByte v, e := loByte v }
  | .hl => s.setHl v
  | .sp => { s with sp := v }

/-- `rp2[p]`, the value PUSH pushes (R109, R166, R167). -/
def State.stack16 (s : State) : StackPair → Word
  | .bc => s.bc
  | .de => s.de
  | .hl => s.hl
  | .af => s.af

/-- `rp2[p] <- v` as POP writes it: AF takes all four flags from bits 7:4 of the low byte, and the
low nibble of F is 0 (R168, R169). -/
def State.setStack16 (s : State) (p : StackPair) (v : Word) : State :=
  match p with
  | .bc => { s with b := hiByte v, c := loByte v }
  | .de => { s with d := hiByte v, e := loByte v }
  | .hl => s.setHl v
  | .af => { s with a := hiByte v, f := loByte v &&& 0xF0 }

/-- `Cond(cc)` on F (R110, R260). -/
def condHolds (cc : Cond) (f : Byte) : Bool :=
  match cc with
  | .nz => !flagZ f
  | .z => flagZ f
  | .nc => !flagC f
  | .c => flagC f

/-- `0xFF00 + n`: an address of the last page (R106, R151 to R154). -/
def highPage (n : Byte) : Word := 0xFF00 + n.zeroExtend 16

/-- `sext_8(e)` as a word: an offset added modulo 0x10000 (R8, R106). -/
def sext8 (e : Byte) : Word := e.signExtend 16

end Sys2Proof.Machine
end

