-- ==== Sys2Proof/Machine/Alu16.lean ====
section
/-!
DEFINITION. 16-bit arithmetic (44_alu16.md R225 to R228): the shared operations, and one meaning for
each row.
-/

namespace Sys2Proof.Machine

open Sys2Proof

/-- `ADD HL,rr` (R225), flags `-0HC`: rr is read before HL is written. -/
def addHl (p : Pair) (s : State) : State :=
  (s.setHl (s.hl + s.r16 p)).withFlags policyk0HC (add16Flags s.hl (s.r16 p))

/-- `INC rr` (R226): no flag. -/
def incPair (p : Pair) (s : State) : State := s.setR16 p (s.r16 p + 1)

/-- `DEC rr` (R227): no flag. -/
def decPair (p : Pair) (s : State) : State := s.setR16 p (s.r16 p - 1)

/-- `ADD SP,e8` (R228), flags `00HC`. -/
def addSp (e : Byte) (s : State) : State :=
  { s with sp := s.sp + sext8 e }.withFlags policy00HC (spOffsetFlags s.sp e)

/-! ### The meanings, one for each row -/

/-- INC BC: R226. -/
def exec_inc_bc (s : State) : Result := .next (incPair .bc s)

/-- ADD HL,BC: R225. -/
def exec_add_hl_bc (s : State) : Result := .next (addHl .bc s)

/-- DEC BC: R227. -/
def exec_dec_bc (s : State) : Result := .next (decPair .bc s)

/-- INC DE: R226. -/
def exec_inc_de (s : State) : Result := .next (incPair .de s)

/-- ADD HL,DE: R225. -/
def exec_add_hl_de (s : State) : Result := .next (addHl .de s)

/-- DEC DE: R227. -/
def exec_dec_de (s : State) : Result := .next (decPair .de s)

/-- INC HL: R226. -/
def exec_inc_hl (s : State) : Result := .next (incPair .hl s)

/-- ADD HL,HL: R225. -/
def exec_add_hl_hl (s : State) : Result := .next (addHl .hl s)

/-- DEC HL: R227. -/
def exec_dec_hl (s : State) : Result := .next (decPair .hl s)

/-- INC SP: R226. -/
def exec_inc_sp (s : State) : Result := .next (incPair .sp s)

/-- ADD HL,SP: R225. -/
def exec_add_hl_sp (s : State) : Result := .next (addHl .sp s)

/-- DEC SP: R227. -/
def exec_dec_sp (s : State) : Result := .next (decPair .sp s)

/-- ADD SP,e8: R228. -/
def exec_add_sp_e8 (e : Byte) (s : State) : Result := .next (addSp e s)

end Sys2Proof.Machine
end

