-- ==== Sys2Proof/Machine/Alu8.lean ====
section
/-!
DEFINITION. 8-bit arithmetic and logic (43_alu8.md R189 to R220): the shared operations, and one
meaning for each row. Flags are applied after the result is written (40_engine.md R134); those of a
memory form come from the value read and the value computed, whether or not the write is dropped
(R214).
-/

namespace Sys2Proof.Machine

open Sys2Proof

/-- `op A,y` (R189 to R212): x is A before the instruction and cin is F.C. CP writes no result. -/
def aluA (op : AluOp) (y : Byte) (s : State) : State :=
  let res := aluCalc op s.a y (flagC s.f)
  { s with a := res.r }.withFlags (aluPolicy op) res.flags

/-- `op A,r`. -/
def aluReg (op : AluOp) (r : Reg8) (s : State) : State := aluA op (s.r8 r) s

/-- `op A,(HL)`. -/
def aluHl (op : AluOp) (s : State) : State :=
  let p := s.busRead s.hl
  aluA op p.1 p.2

/-- `op A,n8`. -/
def aluImm (op : AluOp) (n : Byte) (s : State) : State := aluA op n s

/-- `INC r` (R213), flags `Z0H-`. -/
def incReg (r : Reg8) (s : State) : State :=
  let res := inc8 (s.r8 r)
  (s.setR8 r res.r).withFlags policyZ0Hk res.flags

/-- `DEC r` (R215), flags `Z1H-`. -/
def decReg (r : Reg8) (s : State) : State :=
  let res := dec8 (s.r8 r)
  (s.setR8 r res.r).withFlags policyZ1Hk res.flags

/-- `INC (HL)` (R214): a read and a later write, two accesses. -/
def incHl (s : State) : State :=
  let p := s.busRead s.hl
  let res := inc8 p.1
  (p.2.busWrite s.hl res.r).withFlags policyZ0Hk res.flags

/-- `DEC (HL)` (R216). -/
def decHl (s : State) : State :=
  let p := s.busRead s.hl
  let res := dec8 p.1
  (p.2.busWrite s.hl res.r).withFlags policyZ1Hk res.flags

/-- `DAA` (R217), flags `Z-0C`. -/
def daa (s : State) : State :=
  let res := daa8 s.a s.f
  { s with a := res.r }.withFlags policyZk0C res.flags

/-- `CPL` (R218), flags `-11-`. -/
def cpl (s : State) : State :=
  { s with a := s.a ^^^ 0xFF }.withFlags policyk11k (flagsOf s.f)

/-- `SCF` (R219), flags `-001`. -/
def scf (s : State) : State := s.withFlags policyk001 (flagsOf s.f)

/-- `CCF` (R220), flags `-00C`: C is complemented. -/
def ccf (s : State) : State :=
  s.withFlags policyk00C ⟨flagZ s.f, flagN s.f, flagH s.f, !flagC s.f⟩

/-! ### The meanings, one for each row -/

/-- INC B: R213. -/
def exec_inc_b (s : State) : Result := .next (incReg .b s)

/-- DEC B: R215. -/
def exec_dec_b (s : State) : Result := .next (decReg .b s)

/-- INC C: R213. -/
def exec_inc_c (s : State) : Result := .next (incReg .c s)

/-- DEC C: R215. -/
def exec_dec_c (s : State) : Result := .next (decReg .c s)

/-- INC D: R213. -/
def exec_inc_d (s : State) : Result := .next (incReg .d s)

/-- DEC D: R215. -/
def exec_dec_d (s : State) : Result := .next (decReg .d s)

/-- INC E: R213. -/
def exec_inc_e (s : State) : Result := .next (incReg .e s)

/-- DEC E: R215. -/
def exec_dec_e (s : State) : Result := .next (decReg .e s)

/-- INC H: R213. -/
def exec_inc_h (s : State) : Result := .next (incReg .h s)

/-- DEC H: R215. -/
def exec_dec_h (s : State) : Result := .next (decReg .h s)

/-- DAA: R217. -/
def exec_daa (s : State) : Result := .next (daa s)

/-- INC L: R213. -/
def exec_inc_l (s : State) : Result := .next (incReg .l s)

/-- DEC L: R215. -/
def exec_dec_l (s : State) : Result := .next (decReg .l s)

/-- CPL: R218. -/
def exec_cpl (s : State) : Result := .next (cpl s)

/-- INC (HL): R214. -/
def exec_inc_mhl (s : State) : Result := .next (incHl s)

/-- DEC (HL): R216. -/
def exec_dec_mhl (s : State) : Result := .next (decHl s)

/-- SCF: R219. -/
def exec_scf (s : State) : Result := .next (scf s)

/-- INC A: R213. -/
def exec_inc_a (s : State) : Result := .next (incReg .a s)

/-- DEC A: R215. -/
def exec_dec_a (s : State) : Result := .next (decReg .a s)

/-- CCF: R220. -/
def exec_ccf (s : State) : Result := .next (ccf s)

/-- ADD A,B: R189. -/
def exec_add_a_b (s : State) : Result := .next (aluReg .add .b s)

/-- ADD A,C: R189. -/
def exec_add_a_c (s : State) : Result := .next (aluReg .add .c s)

/-- ADD A,D: R189. -/
def exec_add_a_d (s : State) : Result := .next (aluReg .add .d s)

/-- ADD A,E: R189. -/
def exec_add_a_e (s : State) : Result := .next (aluReg .add .e s)

/-- ADD A,H: R189. -/
def exec_add_a_h (s : State) : Result := .next (aluReg .add .h s)

/-- ADD A,L: R189. -/
def exec_add_a_l (s : State) : Result := .next (aluReg .add .l s)

/-- ADD A,(HL): R190. -/
def exec_add_a_mhl (s : State) : Result := .next (aluHl .add s)

/-- ADD A,A: R189. -/
def exec_add_a_a (s : State) : Result := .next (aluReg .add .a s)

/-- ADC A,B: R192. -/
def exec_adc_a_b (s : State) : Result := .next (aluReg .adc .b s)

/-- ADC A,C: R192. -/
def exec_adc_a_c (s : State) : Result := .next (aluReg .adc .c s)

/-- ADC A,D: R192. -/
def exec_adc_a_d (s : State) : Result := .next (aluReg .adc .d s)

/-- ADC A,E: R192. -/
def exec_adc_a_e (s : State) : Result := .next (aluReg .adc .e s)

/-- ADC A,H: R192. -/
def exec_adc_a_h (s : State) : Result := .next (aluReg .adc .h s)

/-- ADC A,L: R192. -/
def exec_adc_a_l (s : State) : Result := .next (aluReg .adc .l s)

/-- ADC A,(HL): R193. -/
def exec_adc_a_mhl (s : State) : Result := .next (aluHl .adc s)

/-- ADC A,A: R192. -/
def exec_adc_a_a (s : State) : Result := .next (aluReg .adc .a s)

/-- SUB A,B: R195. -/
def exec_sub_a_b (s : State) : Result := .next (aluReg .sub .b s)

/-- SUB A,C: R195. -/
def exec_sub_a_c (s : State) : Result := .next (aluReg .sub .c s)

/-- SUB A,D: R195. -/
def exec_sub_a_d (s : State) : Result := .next (aluReg .sub .d s)

/-- SUB A,E: R195. -/
def exec_sub_a_e (s : State) : Result := .next (aluReg .sub .e s)

/-- SUB A,H: R195. -/
def exec_sub_a_h (s : State) : Result := .next (aluReg .sub .h s)

/-- SUB A,L: R195. -/
def exec_sub_a_l (s : State) : Result := .next (aluReg .sub .l s)

/-- SUB A,(HL): R196. -/
def exec_sub_a_mhl (s : State) : Result := .next (aluHl .sub s)

/-- SUB A,A: R195. -/
def exec_sub_a_a (s : State) : Result := .next (aluReg .sub .a s)

/-- SBC A,B: R198. -/
def exec_sbc_a_b (s : State) : Result := .next (aluReg .sbc .b s)

/-- SBC A,C: R198. -/
def exec_sbc_a_c (s : State) : Result := .next (aluReg .sbc .c s)

/-- SBC A,D: R198. -/
def exec_sbc_a_d (s : State) : Result := .next (aluReg .sbc .d s)

/-- SBC A,E: R198. -/
def exec_sbc_a_e (s : State) : Result := .next (aluReg .sbc .e s)

/-- SBC A,H: R198. -/
def exec_sbc_a_h (s : State) : Result := .next (aluReg .sbc .h s)

/-- SBC A,L: R198. -/
def exec_sbc_a_l (s : State) : Result := .next (aluReg .sbc .l s)

/-- SBC A,(HL): R199. -/
def exec_sbc_a_mhl (s : State) : Result := .next (aluHl .sbc s)

/-- SBC A,A: R198. -/
def exec_sbc_a_a (s : State) : Result := .next (aluReg .sbc .a s)

/-- AND A,B: R201. -/
def exec_and_a_b (s : State) : Result := .next (aluReg .and .b s)

/-- AND A,C: R201. -/
def exec_and_a_c (s : State) : Result := .next (aluReg .and .c s)

/-- AND A,D: R201. -/
def exec_and_a_d (s : State) : Result := .next (aluReg .and .d s)

/-- AND A,E: R201. -/
def exec_and_a_e (s : State) : Result := .next (aluReg .and .e s)

/-- AND A,H: R201. -/
def exec_and_a_h (s : State) : Result := .next (aluReg .and .h s)

/-- AND A,L: R201. -/
def exec_and_a_l (s : State) : Result := .next (aluReg .and .l s)

/-- AND A,(HL): R202. -/
def exec_and_a_mhl (s : State) : Result := .next (aluHl .and s)

/-- AND A,A: R201. -/
def exec_and_a_a (s : State) : Result := .next (aluReg .and .a s)

/-- XOR A,B: R204. -/
def exec_xor_a_b (s : State) : Result := .next (aluReg .xor .b s)

/-- XOR A,C: R204. -/
def exec_xor_a_c (s : State) : Result := .next (aluReg .xor .c s)

/-- XOR A,D: R204. -/
def exec_xor_a_d (s : State) : Result := .next (aluReg .xor .d s)

/-- XOR A,E: R204. -/
def exec_xor_a_e (s : State) : Result := .next (aluReg .xor .e s)

/-- XOR A,H: R204. -/
def exec_xor_a_h (s : State) : Result := .next (aluReg .xor .h s)

/-- XOR A,L: R204. -/
def exec_xor_a_l (s : State) : Result := .next (aluReg .xor .l s)

/-- XOR A,(HL): R205. -/
def exec_xor_a_mhl (s : State) : Result := .next (aluHl .xor s)

/-- XOR A,A: R204. -/
def exec_xor_a_a (s : State) : Result := .next (aluReg .xor .a s)

/-- OR A,B: R207. -/
def exec_or_a_b (s : State) : Result := .next (aluReg .or .b s)

/-- OR A,C: R207. -/
def exec_or_a_c (s : State) : Result := .next (aluReg .or .c s)

/-- OR A,D: R207. -/
def exec_or_a_d (s : State) : Result := .next (aluReg .or .d s)

/-- OR A,E: R207. -/
def exec_or_a_e (s : State) : Result := .next (aluReg .or .e s)

/-- OR A,H: R207. -/
def exec_or_a_h (s : State) : Result := .next (aluReg .or .h s)

/-- OR A,L: R207. -/
def exec_or_a_l (s : State) : Result := .next (aluReg .or .l s)

/-- OR A,(HL): R208. -/
def exec_or_a_mhl (s : State) : Result := .next (aluHl .or s)

/-- OR A,A: R207. -/
def exec_or_a_a (s : State) : Result := .next (aluReg .or .a s)

/-- CP A,B: R210. -/
def exec_cp_a_b (s : State) : Result := .next (aluReg .cp .b s)

/-- CP A,C: R210. -/
def exec_cp_a_c (s : State) : Result := .next (aluReg .cp .c s)

/-- CP A,D: R210. -/
def exec_cp_a_d (s : State) : Result := .next (aluReg .cp .d s)

/-- CP A,E: R210. -/
def exec_cp_a_e (s : State) : Result := .next (aluReg .cp .e s)

/-- CP A,H: R210. -/
def exec_cp_a_h (s : State) : Result := .next (aluReg .cp .h s)

/-- CP A,L: R210. -/
def exec_cp_a_l (s : State) : Result := .next (aluReg .cp .l s)

/-- CP A,(HL): R211. -/
def exec_cp_a_mhl (s : State) : Result := .next (aluHl .cp s)

/-- CP A,A: R210. -/
def exec_cp_a_a (s : State) : Result := .next (aluReg .cp .a s)

/-- ADD A,n8: R191. -/
def exec_add_a_n8 (n : Byte) (s : State) : Result := .next (aluImm .add n s)

/-- ADC A,n8: R194. -/
def exec_adc_a_n8 (n : Byte) (s : State) : Result := .next (aluImm .adc n s)

/-- SUB A,n8: R197. -/
def exec_sub_a_n8 (n : Byte) (s : State) : Result := .next (aluImm .sub n s)

/-- SBC A,n8: R200. -/
def exec_sbc_a_n8 (n : Byte) (s : State) : Result := .next (aluImm .sbc n s)

/-- AND A,n8: R203. -/
def exec_and_a_n8 (n : Byte) (s : State) : Result := .next (aluImm .and n s)

/-- XOR A,n8: R206. -/
def exec_xor_a_n8 (n : Byte) (s : State) : Result := .next (aluImm .xor n s)

/-- OR A,n8: R209. -/
def exec_or_a_n8 (n : Byte) (s : State) : Result := .next (aluImm .or n s)

/-- CP A,n8: R212. -/
def exec_cp_a_n8 (n : Byte) (s : State) : Result := .next (aluImm .cp n s)

end Sys2Proof.Machine
end

