-- ==== Sys2Proof/Machine/Control.lean ====
section
/-!
DEFINITION. Control transfer (46_control.md R260 to R271): the shared operations, and one meaning for
each row. On entry PC is the address of the next instruction: a not-taken transfer leaves it, a call
pushes it, a relative jump adds to it. None changes a flag.
-/

namespace Sys2Proof.Machine

open Sys2Proof

/-- `JP a16` (R261). -/
def jp (x : Word) (s : State) : State := { s with pc := x }

/-- `JP cc,a16` (R262). -/
def jpCond (cc : Cond) (x : Word) (s : State) : State :=
  if condHolds cc s.f then jp x s else s

/-- `JP HL` (R263): no memory is read. -/
def jpHl (s : State) : State := { s with pc := s.hl }

/-- `JR e8` (R264). -/
def jr (e : Byte) (s : State) : State := { s with pc := s.pc + sext8 e }

/-- `JR cc,e8` (R265). -/
def jrCond (cc : Cond) (e : Byte) (s : State) : State :=
  if condHolds cc s.f then jr e s else s

/-- `CALL a16` (R266). -/
def call (x : Word) (s : State) : State := { s.push16 s.pc with pc := x }

/-- `CALL cc,a16` (R267). -/
def callCond (cc : Cond) (x : Word) (s : State) : State :=
  if condHolds cc s.f then call x s else s

/-- `RET` (R268). -/
def ret (s : State) : State :=
  let p := s.pop16
  { p.2 with pc := p.1 }

/-- `RET cc` (R269). -/
def retCond (cc : Cond) (s : State) : State := if condHolds cc s.f then ret s else s

/-- `RETI` (R270). -/
def reti (s : State) : State := s.returnFromInterrupt

/-- `RST 8y` (R271). -/
def rst (y : Fin 8) (s : State) : State :=
  { s.push16 s.pc with pc := BitVec.ofNat 16 (8 * y.val) }

/-! ### The meanings, one for each row -/

/-- JR e8: R264. -/
def exec_jr_e8 (e : Byte) (s : State) : Result := .next (jr e s)

/-- JR NZ,e8: R265. -/
def exec_jr_nz_e8 (e : Byte) (s : State) : Result := .next (jrCond .nz e s)

/-- JR Z,e8: R265. -/
def exec_jr_z_e8 (e : Byte) (s : State) : Result := .next (jrCond .z e s)

/-- JR NC,e8: R265. -/
def exec_jr_nc_e8 (e : Byte) (s : State) : Result := .next (jrCond .nc e s)

/-- JR C,e8: R265. -/
def exec_jr_c_e8 (e : Byte) (s : State) : Result := .next (jrCond .c e s)

/-- RET NZ: R269. -/
def exec_ret_nz (s : State) : Result := .next (retCond .nz s)

/-- JP NZ,a16: R262. -/
def exec_jp_nz_a16 (a : Word) (s : State) : Result := .next (jpCond .nz a s)

/-- JP a16: R261. -/
def exec_jp_a16 (a : Word) (s : State) : Result := .next (jp a s)

/-- CALL NZ,a16: R267. -/
def exec_call_nz_a16 (a : Word) (s : State) : Result := .next (callCond .nz a s)

/-- RST 0x00: R271. -/
def exec_rst_00 (s : State) : Result := .next (rst 0 s)

/-- RET Z: R269. -/
def exec_ret_z (s : State) : Result := .next (retCond .z s)

/-- RET: R268. -/
def exec_ret (s : State) : Result := .next (ret s)

/-- JP Z,a16: R262. -/
def exec_jp_z_a16 (a : Word) (s : State) : Result := .next (jpCond .z a s)

/-- CALL Z,a16: R267. -/
def exec_call_z_a16 (a : Word) (s : State) : Result := .next (callCond .z a s)

/-- CALL a16: R266. -/
def exec_call_a16 (a : Word) (s : State) : Result := .next (call a s)

/-- RST 0x08: R271. -/
def exec_rst_08 (s : State) : Result := .next (rst 1 s)

/-- RET NC: R269. -/
def exec_ret_nc (s : State) : Result := .next (retCond .nc s)

/-- JP NC,a16: R262. -/
def exec_jp_nc_a16 (a : Word) (s : State) : Result := .next (jpCond .nc a s)

/-- CALL NC,a16: R267. -/
def exec_call_nc_a16 (a : Word) (s : State) : Result := .next (callCond .nc a s)

/-- RST 0x10: R271. -/
def exec_rst_10 (s : State) : Result := .next (rst 2 s)

/-- RET C: R269. -/
def exec_ret_c (s : State) : Result := .next (retCond .c s)

/-- RETI: R270. -/
def exec_reti (s : State) : Result := .next (reti s)

/-- JP C,a16: R262. -/
def exec_jp_c_a16 (a : Word) (s : State) : Result := .next (jpCond .c a s)

/-- CALL C,a16: R267. -/
def exec_call_c_a16 (a : Word) (s : State) : Result := .next (callCond .c a s)

/-- RST 0x18: R271. -/
def exec_rst_18 (s : State) : Result := .next (rst 3 s)

/-- RST 0x20: R271. -/
def exec_rst_20 (s : State) : Result := .next (rst 4 s)

/-- JP HL: R263. -/
def exec_jp_hl (s : State) : Result := .next (jpHl s)

/-- RST 0x28: R271. -/
def exec_rst_28 (s : State) : Result := .next (rst 5 s)

/-- RST 0x30: R271. -/
def exec_rst_30 (s : State) : Result := .next (rst 6 s)

/-- RST 0x38: R271. -/
def exec_rst_38 (s : State) : Result := .next (rst 7 s)

end Sys2Proof.Machine
end

