-- ==== Sys2Proof/Machine/Load16.lean ====
section
/-!
DEFINITION. The 16-bit loads, PUSH and POP (42_load16_stack.md R162 to R169) over the stack helper of
Machine/Ops.lean: the shared operations, and one meaning for each row.
-/

namespace Sys2Proof.Machine

open Sys2Proof

/-- `LD rr,n16` (R162). -/
def ldPair (p : Pair) (n : Word) (s : State) : State := s.setR16 p n

/-- `LD (a16),SP` (R163): the low byte first. -/
def ldAbsSp (x : Word) (s : State) : State := s.busWrite16 x s.sp

/-- `LD SP,HL` (R164). -/
def ldSpHl (s : State) : State := { s with sp := s.hl }

/-- `LD HL,SP+e8` (R165), flags `00HC`. -/
def ldHlSp (e : Byte) (s : State) : State :=
  (s.setHl (s.sp + sext8 e)).withFlags policy00HC (spOffsetFlags s.sp e)

/-- `PUSH rr`, `PUSH AF` (R166, R167). -/
def push (p : StackPair) (s : State) : State := s.push16 (s.stack16 p)

/-- `POP rr`, `POP AF` (R168, R169). For AF the flags are the popped byte's bits 7:4 and the low
nibble of F is 0. -/
def pop (p : StackPair) (s : State) : State :=
  let q := s.pop16
  q.2.setStack16 p q.1

/-! ### The meanings, one for each row -/

/-- LD BC,n16: R162. -/
def exec_ld_bc_n16 (n : Word) (s : State) : Result := .next (ldPair .bc n s)

/-- LD (a16),SP: R163. -/
def exec_ld_ma16_sp (a : Word) (s : State) : Result := .next (ldAbsSp a s)

/-- LD DE,n16: R162. -/
def exec_ld_de_n16 (n : Word) (s : State) : Result := .next (ldPair .de n s)

/-- LD HL,n16: R162. -/
def exec_ld_hl_n16 (n : Word) (s : State) : Result := .next (ldPair .hl n s)

/-- LD SP,n16: R162. -/
def exec_ld_sp_n16 (n : Word) (s : State) : Result := .next (ldPair .sp n s)

/-- POP BC: R168. -/
def exec_pop_bc (s : State) : Result := .next (pop .bc s)

/-- PUSH BC: R166. -/
def exec_push_bc (s : State) : Result := .next (push .bc s)

/-- POP DE: R168. -/
def exec_pop_de (s : State) : Result := .next (pop .de s)

/-- PUSH DE: R166. -/
def exec_push_de (s : State) : Result := .next (push .de s)

/-- POP HL: R168. -/
def exec_pop_hl (s : State) : Result := .next (pop .hl s)

/-- PUSH HL: R166. -/
def exec_push_hl (s : State) : Result := .next (push .hl s)

/-- POP AF: R169. -/
def exec_pop_af (s : State) : Result := .next (pop .af s)

/-- PUSH AF: R167. -/
def exec_push_af (s : State) : Result := .next (push .af s)

/-- LD HL,SP+e8: R165. -/
def exec_ld_hl_sp_e8 (e : Byte) (s : State) : Result := .next (ldHlSp e s)

/-- LD SP,HL: R164. -/
def exec_ld_sp_hl (s : State) : Result := .next (ldSpHl s)

end Sys2Proof.Machine
end

