-- ==== Sys2Proof/Machine/Load8.lean ====
section
/-!
DEFINITION. The 8-bit loads (41_load8.md R140 to R158): the shared operations, and one meaning for each
row. None changes a flag. On entry PC is past the whole instruction (log entry 7).
-/

namespace Sys2Proof.Machine

open Sys2Proof

/-- `LD r,r'` (R140). -/
def ldReg (rd rs : Reg8) (s : State) : State := s.setR8 rd (s.r8 rs)

/-- `LD r,n8` (R141). -/
def ldImm (rd : Reg8) (n : Byte) (s : State) : State := s.setR8 rd n

/-- Load a register from the byte at address x: the moves before the access, then the read. -/
def loadFrom (rd : Reg8) (x : Word) (s : State) : State :=
  let p := s.busRead x
  p.2.setR8 rd p.1

/-- `LD r,(HL)` (R142): the address is HL before the register is written. -/
def ldFromHl (rd : Reg8) (s : State) : State := loadFrom rd s.hl s

/-- `LD (HL),r` (R143). -/
def ldHlReg (rs : Reg8) (s : State) : State := s.busWrite s.hl (s.r8 rs)

/-- `LD (HL),n8` (R144). -/
def ldHlImm (n : Byte) (s : State) : State := s.busWrite s.hl n

/-- `LD A,(BC)` (R145). -/
def ldAFromBc (s : State) : State := loadFrom .a s.bc s

/-- `LD A,(DE)` (R146). -/
def ldAFromDe (s : State) : State := loadFrom .a s.de s

/-- `LD (BC),A` (R147). -/
def ldAToBc (s : State) : State := s.busWrite s.bc s.a

/-- `LD (DE),A` (R148). -/
def ldAToDe (s : State) : State := s.busWrite s.de s.a

/-- `LD A,(a16)` (R149). -/
def ldAFromAbs (x : Word) (s : State) : State := loadFrom .a x s

/-- `LD (a16),A` (R150). -/
def ldAToAbs (x : Word) (s : State) : State := s.busWrite x s.a

/-- `LDH A,(C)` (R151). -/
def ldhAFromC (s : State) : State := loadFrom .a (highPage s.c) s

/-- `LDH (C),A` (R152). -/
def ldhCFromA (s : State) : State := s.busWrite (highPage s.c) s.a

/-- `LDH A,(a8)` (R153). -/
def ldhAFromImm (n : Byte) (s : State) : State := loadFrom .a (highPage n) s

/-- `LDH (a8),A` (R154). -/
def ldhImmFromA (n : Byte) (s : State) : State := s.busWrite (highPage n) s.a

/-- `LD A,(HL+)` (R155): the old HL is the address. -/
def ldAFromHlInc (s : State) : State := (loadFrom .a s.hl s).setHl (s.hl + 1)

/-- `LD A,(HL-)` (R156). -/
def ldAFromHlDec (s : State) : State := (loadFrom .a s.hl s).setHl (s.hl - 1)

/-- `LD (HL+),A` (R157): HL changes even when the store is dropped. -/
def ldAToHlInc (s : State) : State := (s.busWrite s.hl s.a).setHl (s.hl + 1)

/-- `LD (HL-),A` (R158). -/
def ldAToHlDec (s : State) : State := (s.busWrite s.hl s.a).setHl (s.hl - 1)

/-! ### The meanings, one for each row -/

/-- LD (BC),A: R147. -/
def exec_ld_mbc_a (s : State) : Result := .next (ldAToBc s)

/-- LD B,n8: R141. -/
def exec_ld_b_n8 (n : Byte) (s : State) : Result := .next (ldImm .b n s)

/-- LD A,(BC): R145. -/
def exec_ld_a_mbc (s : State) : Result := .next (ldAFromBc s)

/-- LD C,n8: R141. -/
def exec_ld_c_n8 (n : Byte) (s : State) : Result := .next (ldImm .c n s)

/-- LD (DE),A: R148. -/
def exec_ld_mde_a (s : State) : Result := .next (ldAToDe s)

/-- LD D,n8: R141. -/
def exec_ld_d_n8 (n : Byte) (s : State) : Result := .next (ldImm .d n s)

/-- LD A,(DE): R146. -/
def exec_ld_a_mde (s : State) : Result := .next (ldAFromDe s)

/-- LD E,n8: R141. -/
def exec_ld_e_n8 (n : Byte) (s : State) : Result := .next (ldImm .e n s)

/-- LD (HL+),A: R157. -/
def exec_ld_mhli_a (s : State) : Result := .next (ldAToHlInc s)

/-- LD H,n8: R141. -/
def exec_ld_h_n8 (n : Byte) (s : State) : Result := .next (ldImm .h n s)

/-- LD A,(HL+): R155. -/
def exec_ld_a_mhli (s : State) : Result := .next (ldAFromHlInc s)

/-- LD L,n8: R141. -/
def exec_ld_l_n8 (n : Byte) (s : State) : Result := .next (ldImm .l n s)

/-- LD (HL-),A: R158. -/
def exec_ld_mhld_a (s : State) : Result := .next (ldAToHlDec s)

/-- LD (HL),n8: R144. -/
def exec_ld_mhl_n8 (n : Byte) (s : State) : Result := .next (ldHlImm n s)

/-- LD A,(HL-): R156. -/
def exec_ld_a_mhld (s : State) : Result := .next (ldAFromHlDec s)

/-- LD A,n8: R141. -/
def exec_ld_a_n8 (n : Byte) (s : State) : Result := .next (ldImm .a n s)

/-- LD B,B: R140. -/
def exec_ld_b_b (s : State) : Result := .next (ldReg .b .b s)

/-- LD B,C: R140. -/
def exec_ld_b_c (s : State) : Result := .next (ldReg .b .c s)

/-- LD B,D: R140. -/
def exec_ld_b_d (s : State) : Result := .next (ldReg .b .d s)

/-- LD B,E: R140. -/
def exec_ld_b_e (s : State) : Result := .next (ldReg .b .e s)

/-- LD B,H: R140. -/
def exec_ld_b_h (s : State) : Result := .next (ldReg .b .h s)

/-- LD B,L: R140. -/
def exec_ld_b_l (s : State) : Result := .next (ldReg .b .l s)

/-- LD B,(HL): R142. -/
def exec_ld_b_mhl (s : State) : Result := .next (ldFromHl .b s)

/-- LD B,A: R140. -/
def exec_ld_b_a (s : State) : Result := .next (ldReg .b .a s)

/-- LD C,B: R140. -/
def exec_ld_c_b (s : State) : Result := .next (ldReg .c .b s)

/-- LD C,C: R140. -/
def exec_ld_c_c (s : State) : Result := .next (ldReg .c .c s)

/-- LD C,D: R140. -/
def exec_ld_c_d (s : State) : Result := .next (ldReg .c .d s)

/-- LD C,E: R140. -/
def exec_ld_c_e (s : State) : Result := .next (ldReg .c .e s)

/-- LD C,H: R140. -/
def exec_ld_c_h (s : State) : Result := .next (ldReg .c .h s)

/-- LD C,L: R140. -/
def exec_ld_c_l (s : State) : Result := .next (ldReg .c .l s)

/-- LD C,(HL): R142. -/
def exec_ld_c_mhl (s : State) : Result := .next (ldFromHl .c s)

/-- LD C,A: R140. -/
def exec_ld_c_a (s : State) : Result := .next (ldReg .c .a s)

/-- LD D,B: R140. -/
def exec_ld_d_b (s : State) : Result := .next (ldReg .d .b s)

/-- LD D,C: R140. -/
def exec_ld_d_c (s : State) : Result := .next (ldReg .d .c s)

/-- LD D,D: R140. -/
def exec_ld_d_d (s : State) : Result := .next (ldReg .d .d s)

/-- LD D,E: R140. -/
def exec_ld_d_e (s : State) : Result := .next (ldReg .d .e s)

/-- LD D,H: R140. -/
def exec_ld_d_h (s : State) : Result := .next (ldReg .d .h s)

/-- LD D,L: R140. -/
def exec_ld_d_l (s : State) : Result := .next (ldReg .d .l s)

/-- LD D,(HL): R142. -/
def exec_ld_d_mhl (s : State) : Result := .next (ldFromHl .d s)

/-- LD D,A: R140. -/
def exec_ld_d_a (s : State) : Result := .next (ldReg .d .a s)

/-- LD E,B: R140. -/
def exec_ld_e_b (s : State) : Result := .next (ldReg .e .b s)

/-- LD E,C: R140. -/
def exec_ld_e_c (s : State) : Result := .next (ldReg .e .c s)

/-- LD E,D: R140. -/
def exec_ld_e_d (s : State) : Result := .next (ldReg .e .d s)

/-- LD E,E: R140. -/
def exec_ld_e_e (s : State) : Result := .next (ldReg .e .e s)

/-- LD E,H: R140. -/
def exec_ld_e_h (s : State) : Result := .next (ldReg .e .h s)

/-- LD E,L: R140. -/
def exec_ld_e_l (s : State) : Result := .next (ldReg .e .l s)

/-- LD E,(HL): R142. -/
def exec_ld_e_mhl (s : State) : Result := .next (ldFromHl .e s)

/-- LD E,A: R140. -/
def exec_ld_e_a (s : State) : Result := .next (ldReg .e .a s)

/-- LD H,B: R140. -/
def exec_ld_h_b (s : State) : Result := .next (ldReg .h .b s)

/-- LD H,C: R140. -/
def exec_ld_h_c (s : State) : Result := .next (ldReg .h .c s)

/-- LD H,D: R140. -/
def exec_ld_h_d (s : State) : Result := .next (ldReg .h .d s)

/-- LD H,E: R140. -/
def exec_ld_h_e (s : State) : Result := .next (ldReg .h .e s)

/-- LD H,H: R140. -/
def exec_ld_h_h (s : State) : Result := .next (ldReg .h .h s)

/-- LD H,L: R140. -/
def exec_ld_h_l (s : State) : Result := .next (ldReg .h .l s)

/-- LD H,(HL): R142. -/
def exec_ld_h_mhl (s : State) : Result := .next (ldFromHl .h s)

/-- LD H,A: R140. -/
def exec_ld_h_a (s : State) : Result := .next (ldReg .h .a s)

/-- LD L,B: R140. -/
def exec_ld_l_b (s : State) : Result := .next (ldReg .l .b s)

/-- LD L,C: R140. -/
def exec_ld_l_c (s : State) : Result := .next (ldReg .l .c s)

/-- LD L,D: R140. -/
def exec_ld_l_d (s : State) : Result := .next (ldReg .l .d s)

/-- LD L,E: R140. -/
def exec_ld_l_e (s : State) : Result := .next (ldReg .l .e s)

/-- LD L,H: R140. -/
def exec_ld_l_h (s : State) : Result := .next (ldReg .l .h s)

/-- LD L,L: R140. -/
def exec_ld_l_l (s : State) : Result := .next (ldReg .l .l s)

/-- LD L,(HL): R142. -/
def exec_ld_l_mhl (s : State) : Result := .next (ldFromHl .l s)

/-- LD L,A: R140. -/
def exec_ld_l_a (s : State) : Result := .next (ldReg .l .a s)

/-- LD (HL),B: R143. -/
def exec_ld_mhl_b (s : State) : Result := .next (ldHlReg .b s)

/-- LD (HL),C: R143. -/
def exec_ld_mhl_c (s : State) : Result := .next (ldHlReg .c s)

/-- LD (HL),D: R143. -/
def exec_ld_mhl_d (s : State) : Result := .next (ldHlReg .d s)

/-- LD (HL),E: R143. -/
def exec_ld_mhl_e (s : State) : Result := .next (ldHlReg .e s)

/-- LD (HL),H: R143. -/
def exec_ld_mhl_h (s : State) : Result := .next (ldHlReg .h s)

/-- LD (HL),L: R143. -/
def exec_ld_mhl_l (s : State) : Result := .next (ldHlReg .l s)

/-- LD (HL),A: R143. -/
def exec_ld_mhl_a (s : State) : Result := .next (ldHlReg .a s)

/-- LD A,B: R140. -/
def exec_ld_a_b (s : State) : Result := .next (ldReg .a .b s)

/-- LD A,C: R140. -/
def exec_ld_a_c (s : State) : Result := .next (ldReg .a .c s)

/-- LD A,D: R140. -/
def exec_ld_a_d (s : State) : Result := .next (ldReg .a .d s)

/-- LD A,E: R140. -/
def exec_ld_a_e (s : State) : Result := .next (ldReg .a .e s)

/-- LD A,H: R140. -/
def exec_ld_a_h (s : State) : Result := .next (ldReg .a .h s)

/-- LD A,L: R140. -/
def exec_ld_a_l (s : State) : Result := .next (ldReg .a .l s)

/-- LD A,(HL): R142. -/
def exec_ld_a_mhl (s : State) : Result := .next (ldFromHl .a s)

/-- LD A,A: R140. -/
def exec_ld_a_a (s : State) : Result := .next (ldReg .a .a s)

/-- LDH (a8),A: R154. -/
def exec_ldh_ma8_a (n : Byte) (s : State) : Result := .next (ldhImmFromA n s)

/-- LDH (C),A: R152. -/
def exec_ldh_mc_a (s : State) : Result := .next (ldhCFromA s)

/-- LD (a16),A: R150. -/
def exec_ld_ma16_a (a : Word) (s : State) : Result := .next (ldAToAbs a s)

/-- LDH A,(a8): R153. -/
def exec_ldh_a_ma8 (n : Byte) (s : State) : Result := .next (ldhAFromImm n s)

/-- LDH A,(C): R151. -/
def exec_ldh_a_mc (s : State) : Result := .next (ldhAFromC s)

/-- LD A,(a16): R149. -/
def exec_ld_a_ma16 (a : Word) (s : State) : Result := .next (ldAFromAbs a s)

end Sys2Proof.Machine
end

