-- ==== Sys2Proof/Machine/BitOps.lean ====
section
/-!
DEFINITION. Bit test, reset and set (45_rotate_shift_bit.md R251 to R256): the shared operations, and
one meaning for each row.
-/

namespace Sys2Proof.Machine

open Sys2Proof

/-- The byte with only bit b set, `1 << b`. -/
def bitMask (b : Fin 8) : Byte := BitVec.ofNat 8 (2 ^ b.val)

/-- Flags of `BIT` (R251): Z is set when the tested bit is 0. -/
def bitFlags (b : Fin 8) (v : Byte) : Flags := ⟨!v.getLsbD b.val, false, true, false⟩

/-- `BIT b,r` (R251), flags `Z01-`. -/
def bitReg (b : Fin 8) (r : Reg8) (s : State) : State :=
  s.withFlags policyZ01k (bitFlags b (s.r8 r))

/-- `BIT b,(HL)` (R252): a read, no write. -/
def bitHl (b : Fin 8) (s : State) : State :=
  let p := s.busRead s.hl
  p.2.withFlags policyZ01k (bitFlags b p.1)

/-- `RES b,r` (R253). -/
def resReg (b : Fin 8) (r : Reg8) (s : State) : State := s.setR8 r (s.r8 r &&& ~~~ bitMask b)

/-- `RES b,(HL)` (R254). -/
def resHl (b : Fin 8) (s : State) : State :=
  let p := s.busRead s.hl
  p.2.busWrite s.hl (p.1 &&& ~~~ bitMask b)

/-- `SET b,r` (R255). -/
def setReg (b : Fin 8) (r : Reg8) (s : State) : State := s.setR8 r (s.r8 r ||| bitMask b)

/-- `SET b,(HL)` (R256). -/
def setHlBit (b : Fin 8) (s : State) : State :=
  let p := s.busRead s.hl
  p.2.busWrite s.hl (p.1 ||| bitMask b)

/-! ### The meanings, one for each row -/

/-- BIT 0,B: R251. -/
def exec_bit_0_b (s : State) : Result := .next (bitReg 0 .b s)

/-- BIT 0,C: R251. -/
def exec_bit_0_c (s : State) : Result := .next (bitReg 0 .c s)

/-- BIT 0,D: R251. -/
def exec_bit_0_d (s : State) : Result := .next (bitReg 0 .d s)

/-- BIT 0,E: R251. -/
def exec_bit_0_e (s : State) : Result := .next (bitReg 0 .e s)

/-- BIT 0,H: R251. -/
def exec_bit_0_h (s : State) : Result := .next (bitReg 0 .h s)

/-- BIT 0,L: R251. -/
def exec_bit_0_l (s : State) : Result := .next (bitReg 0 .l s)

/-- BIT 0,(HL): R252. -/
def exec_bit_0_mhl (s : State) : Result := .next (bitHl 0 s)

/-- BIT 0,A: R251. -/
def exec_bit_0_a (s : State) : Result := .next (bitReg 0 .a s)

/-- BIT 1,B: R251. -/
def exec_bit_1_b (s : State) : Result := .next (bitReg 1 .b s)

/-- BIT 1,C: R251. -/
def exec_bit_1_c (s : State) : Result := .next (bitReg 1 .c s)

/-- BIT 1,D: R251. -/
def exec_bit_1_d (s : State) : Result := .next (bitReg 1 .d s)

/-- BIT 1,E: R251. -/
def exec_bit_1_e (s : State) : Result := .next (bitReg 1 .e s)

/-- BIT 1,H: R251. -/
def exec_bit_1_h (s : State) : Result := .next (bitReg 1 .h s)

/-- BIT 1,L: R251. -/
def exec_bit_1_l (s : State) : Result := .next (bitReg 1 .l s)

/-- BIT 1,(HL): R252. -/
def exec_bit_1_mhl (s : State) : Result := .next (bitHl 1 s)

/-- BIT 1,A: R251. -/
def exec_bit_1_a (s : State) : Result := .next (bitReg 1 .a s)

/-- BIT 2,B: R251. -/
def exec_bit_2_b (s : State) : Result := .next (bitReg 2 .b s)

/-- BIT 2,C: R251. -/
def exec_bit_2_c (s : State) : Result := .next (bitReg 2 .c s)

/-- BIT 2,D: R251. -/
def exec_bit_2_d (s : State) : Result := .next (bitReg 2 .d s)

/-- BIT 2,E: R251. -/
def exec_bit_2_e (s : State) : Result := .next (bitReg 2 .e s)

/-- BIT 2,H: R251. -/
def exec_bit_2_h (s : State) : Result := .next (bitReg 2 .h s)

/-- BIT 2,L: R251. -/
def exec_bit_2_l (s : State) : Result := .next (bitReg 2 .l s)

/-- BIT 2,(HL): R252. -/
def exec_bit_2_mhl (s : State) : Result := .next (bitHl 2 s)

/-- BIT 2,A: R251. -/
def exec_bit_2_a (s : State) : Result := .next (bitReg 2 .a s)

/-- BIT 3,B: R251. -/
def exec_bit_3_b (s : State) : Result := .next (bitReg 3 .b s)

/-- BIT 3,C: R251. -/
def exec_bit_3_c (s : State) : Result := .next (bitReg 3 .c s)

/-- BIT 3,D: R251. -/
def exec_bit_3_d (s : State) : Result := .next (bitReg 3 .d s)

/-- BIT 3,E: R251. -/
def exec_bit_3_e (s : State) : Result := .next (bitReg 3 .e s)

/-- BIT 3,H: R251. -/
def exec_bit_3_h (s : State) : Result := .next (bitReg 3 .h s)

/-- BIT 3,L: R251. -/
def exec_bit_3_l (s : State) : Result := .next (bitReg 3 .l s)

/-- BIT 3,(HL): R252. -/
def exec_bit_3_mhl (s : State) : Result := .next (bitHl 3 s)

/-- BIT 3,A: R251. -/
def exec_bit_3_a (s : State) : Result := .next (bitReg 3 .a s)

/-- BIT 4,B: R251. -/
def exec_bit_4_b (s : State) : Result := .next (bitReg 4 .b s)

/-- BIT 4,C: R251. -/
def exec_bit_4_c (s : State) : Result := .next (bitReg 4 .c s)

/-- BIT 4,D: R251. -/
def exec_bit_4_d (s : State) : Result := .next (bitReg 4 .d s)

/-- BIT 4,E: R251. -/
def exec_bit_4_e (s : State) : Result := .next (bitReg 4 .e s)

/-- BIT 4,H: R251. -/
def exec_bit_4_h (s : State) : Result := .next (bitReg 4 .h s)

/-- BIT 4,L: R251. -/
def exec_bit_4_l (s : State) : Result := .next (bitReg 4 .l s)

/-- BIT 4,(HL): R252. -/
def exec_bit_4_mhl (s : State) : Result := .next (bitHl 4 s)

/-- BIT 4,A: R251. -/
def exec_bit_4_a (s : State) : Result := .next (bitReg 4 .a s)

/-- BIT 5,B: R251. -/
def exec_bit_5_b (s : State) : Result := .next (bitReg 5 .b s)

/-- BIT 5,C: R251. -/
def exec_bit_5_c (s : State) : Result := .next (bitReg 5 .c s)

/-- BIT 5,D: R251. -/
def exec_bit_5_d (s : State) : Result := .next (bitReg 5 .d s)

/-- BIT 5,E: R251. -/
def exec_bit_5_e (s : State) : Result := .next (bitReg 5 .e s)

/-- BIT 5,H: R251. -/
def exec_bit_5_h (s : State) : Result := .next (bitReg 5 .h s)

/-- BIT 5,L: R251. -/
def exec_bit_5_l (s : State) : Result := .next (bitReg 5 .l s)

/-- BIT 5,(HL): R252. -/
def exec_bit_5_mhl (s : State) : Result := .next (bitHl 5 s)

/-- BIT 5,A: R251. -/
def exec_bit_5_a (s : State) : Result := .next (bitReg 5 .a s)

/-- BIT 6,B: R251. -/
def exec_bit_6_b (s : State) : Result := .next (bitReg 6 .b s)

/-- BIT 6,C: R251. -/
def exec_bit_6_c (s : State) : Result := .next (bitReg 6 .c s)

/-- BIT 6,D: R251. -/
def exec_bit_6_d (s : State) : Result := .next (bitReg 6 .d s)

/-- BIT 6,E: R251. -/
def exec_bit_6_e (s : State) : Result := .next (bitReg 6 .e s)

/-- BIT 6,H: R251. -/
def exec_bit_6_h (s : State) : Result := .next (bitReg 6 .h s)

/-- BIT 6,L: R251. -/
def exec_bit_6_l (s : State) : Result := .next (bitReg 6 .l s)

/-- BIT 6,(HL): R252. -/
def exec_bit_6_mhl (s : State) : Result := .next (bitHl 6 s)

/-- BIT 6,A: R251. -/
def exec_bit_6_a (s : State) : Result := .next (bitReg 6 .a s)

/-- BIT 7,B: R251. -/
def exec_bit_7_b (s : State) : Result := .next (bitReg 7 .b s)

/-- BIT 7,C: R251. -/
def exec_bit_7_c (s : State) : Result := .next (bitReg 7 .c s)

/-- BIT 7,D: R251. -/
def exec_bit_7_d (s : State) : Result := .next (bitReg 7 .d s)

/-- BIT 7,E: R251. -/
def exec_bit_7_e (s : State) : Result := .next (bitReg 7 .e s)

/-- BIT 7,H: R251. -/
def exec_bit_7_h (s : State) : Result := .next (bitReg 7 .h s)

/-- BIT 7,L: R251. -/
def exec_bit_7_l (s : State) : Result := .next (bitReg 7 .l s)

/-- BIT 7,(HL): R252. -/
def exec_bit_7_mhl (s : State) : Result := .next (bitHl 7 s)

/-- BIT 7,A: R251. -/
def exec_bit_7_a (s : State) : Result := .next (bitReg 7 .a s)

/-- RES 0,B: R253. -/
def exec_res_0_b (s : State) : Result := .next (resReg 0 .b s)

/-- RES 0,C: R253. -/
def exec_res_0_c (s : State) : Result := .next (resReg 0 .c s)

/-- RES 0,D: R253. -/
def exec_res_0_d (s : State) : Result := .next (resReg 0 .d s)

/-- RES 0,E: R253. -/
def exec_res_0_e (s : State) : Result := .next (resReg 0 .e s)

/-- RES 0,H: R253. -/
def exec_res_0_h (s : State) : Result := .next (resReg 0 .h s)

/-- RES 0,L: R253. -/
def exec_res_0_l (s : State) : Result := .next (resReg 0 .l s)

/-- RES 0,(HL): R254. -/
def exec_res_0_mhl (s : State) : Result := .next (resHl 0 s)

/-- RES 0,A: R253. -/
def exec_res_0_a (s : State) : Result := .next (resReg 0 .a s)

/-- RES 1,B: R253. -/
def exec_res_1_b (s : State) : Result := .next (resReg 1 .b s)

/-- RES 1,C: R253. -/
def exec_res_1_c (s : State) : Result := .next (resReg 1 .c s)

/-- RES 1,D: R253. -/
def exec_res_1_d (s : State) : Result := .next (resReg 1 .d s)

/-- RES 1,E: R253. -/
def exec_res_1_e (s : State) : Result := .next (resReg 1 .e s)

/-- RES 1,H: R253. -/
def exec_res_1_h (s : State) : Result := .next (resReg 1 .h s)

/-- RES 1,L: R253. -/
def exec_res_1_l (s : State) : Result := .next (resReg 1 .l s)

/-- RES 1,(HL): R254. -/
def exec_res_1_mhl (s : State) : Result := .next (resHl 1 s)

/-- RES 1,A: R253. -/
def exec_res_1_a (s : State) : Result := .next (resReg 1 .a s)

/-- RES 2,B: R253. -/
def exec_res_2_b (s : State) : Result := .next (resReg 2 .b s)

/-- RES 2,C: R253. -/
def exec_res_2_c (s : State) : Result := .next (resReg 2 .c s)

/-- RES 2,D: R253. -/
def exec_res_2_d (s : State) : Result := .next (resReg 2 .d s)

/-- RES 2,E: R253. -/
def exec_res_2_e (s : State) : Result := .next (resReg 2 .e s)

/-- RES 2,H: R253. -/
def exec_res_2_h (s : State) : Result := .next (resReg 2 .h s)

/-- RES 2,L: R253. -/
def exec_res_2_l (s : State) : Result := .next (resReg 2 .l s)

/-- RES 2,(HL): R254. -/
def exec_res_2_mhl (s : State) : Result := .next (resHl 2 s)

/-- RES 2,A: R253. -/
def exec_res_2_a (s : State) : Result := .next (resReg 2 .a s)

/-- RES 3,B: R253. -/
def exec_res_3_b (s : State) : Result := .next (resReg 3 .b s)

/-- RES 3,C: R253. -/
def exec_res_3_c (s : State) : Result := .next (resReg 3 .c s)

/-- RES 3,D: R253. -/
def exec_res_3_d (s : State) : Result := .next (resReg 3 .d s)

/-- RES 3,E: R253. -/
def exec_res_3_e (s : State) : Result := .next (resReg 3 .e s)

/-- RES 3,H: R253. -/
def exec_res_3_h (s : State) : Result := .next (resReg 3 .h s)

/-- RES 3,L: R253. -/
def exec_res_3_l (s : State) : Result := .next (resReg 3 .l s)

/-- RES 3,(HL): R254. -/
def exec_res_3_mhl (s : State) : Result := .next (resHl 3 s)

/-- RES 3,A: R253. -/
def exec_res_3_a (s : State) : Result := .next (resReg 3 .a s)

/-- RES 4,B: R253. -/
def exec_res_4_b (s : State) : Result := .next (resReg 4 .b s)

/-- RES 4,C: R253. -/
def exec_res_4_c (s : State) : Result := .next (resReg 4 .c s)

/-- RES 4,D: R253. -/
def exec_res_4_d (s : State) : Result := .next (resReg 4 .d s)

/-- RES 4,E: R253. -/
def exec_res_4_e (s : State) : Result := .next (resReg 4 .e s)

/-- RES 4,H: R253. -/
def exec_res_4_h (s : State) : Result := .next (resReg 4 .h s)

/-- RES 4,L: R253. -/
def exec_res_4_l (s : State) : Result := .next (resReg 4 .l s)

/-- RES 4,(HL): R254. -/
def exec_res_4_mhl (s : State) : Result := .next (resHl 4 s)

/-- RES 4,A: R253. -/
def exec_res_4_a (s : State) : Result := .next (resReg 4 .a s)

/-- RES 5,B: R253. -/
def exec_res_5_b (s : State) : Result := .next (resReg 5 .b s)

/-- RES 5,C: R253. -/
def exec_res_5_c (s : State) : Result := .next (resReg 5 .c s)

/-- RES 5,D: R253. -/
def exec_res_5_d (s : State) : Result := .next (resReg 5 .d s)

/-- RES 5,E: R253. -/
def exec_res_5_e (s : State) : Result := .next (resReg 5 .e s)

/-- RES 5,H: R253. -/
def exec_res_5_h (s : State) : Result := .next (resReg 5 .h s)

/-- RES 5,L: R253. -/
def exec_res_5_l (s : State) : Result := .next (resReg 5 .l s)

/-- RES 5,(HL): R254. -/
def exec_res_5_mhl (s : State) : Result := .next (resHl 5 s)

/-- RES 5,A: R253. -/
def exec_res_5_a (s : State) : Result := .next (resReg 5 .a s)

/-- RES 6,B: R253. -/
def exec_res_6_b (s : State) : Result := .next (resReg 6 .b s)

/-- RES 6,C: R253. -/
def exec_res_6_c (s : State) : Result := .next (resReg 6 .c s)

/-- RES 6,D: R253. -/
def exec_res_6_d (s : State) : Result := .next (resReg 6 .d s)

/-- RES 6,E: R253. -/
def exec_res_6_e (s : State) : Result := .next (resReg 6 .e s)

/-- RES 6,H: R253. -/
def exec_res_6_h (s : State) : Result := .next (resReg 6 .h s)

/-- RES 6,L: R253. -/
def exec_res_6_l (s : State) : Result := .next (resReg 6 .l s)

/-- RES 6,(HL): R254. -/
def exec_res_6_mhl (s : State) : Result := .next (resHl 6 s)

/-- RES 6,A: R253. -/
def exec_res_6_a (s : State) : Result := .next (resReg 6 .a s)

/-- RES 7,B: R253. -/
def exec_res_7_b (s : State) : Result := .next (resReg 7 .b s)

/-- RES 7,C: R253. -/
def exec_res_7_c (s : State) : Result := .next (resReg 7 .c s)

/-- RES 7,D: R253. -/
def exec_res_7_d (s : State) : Result := .next (resReg 7 .d s)

/-- RES 7,E: R253. -/
def exec_res_7_e (s : State) : Result := .next (resReg 7 .e s)

/-- RES 7,H: R253. -/
def exec_res_7_h (s : State) : Result := .next (resReg 7 .h s)

/-- RES 7,L: R253. -/
def exec_res_7_l (s : State) : Result := .next (resReg 7 .l s)

/-- RES 7,(HL): R254. -/
def exec_res_7_mhl (s : State) : Result := .next (resHl 7 s)

/-- RES 7,A: R253. -/
def exec_res_7_a (s : State) : Result := .next (resReg 7 .a s)

/-- SET 0,B: R255. -/
def exec_set_0_b (s : State) : Result := .next (setReg 0 .b s)

/-- SET 0,C: R255. -/
def exec_set_0_c (s : State) : Result := .next (setReg 0 .c s)

/-- SET 0,D: R255. -/
def exec_set_0_d (s : State) : Result := .next (setReg 0 .d s)

/-- SET 0,E: R255. -/
def exec_set_0_e (s : State) : Result := .next (setReg 0 .e s)

/-- SET 0,H: R255. -/
def exec_set_0_h (s : State) : Result := .next (setReg 0 .h s)

/-- SET 0,L: R255. -/
def exec_set_0_l (s : State) : Result := .next (setReg 0 .l s)

/-- SET 0,(HL): R256. -/
def exec_set_0_mhl (s : State) : Result := .next (setHlBit 0 s)

/-- SET 0,A: R255. -/
def exec_set_0_a (s : State) : Result := .next (setReg 0 .a s)

/-- SET 1,B: R255. -/
def exec_set_1_b (s : State) : Result := .next (setReg 1 .b s)

/-- SET 1,C: R255. -/
def exec_set_1_c (s : State) : Result := .next (setReg 1 .c s)

/-- SET 1,D: R255. -/
def exec_set_1_d (s : State) : Result := .next (setReg 1 .d s)

/-- SET 1,E: R255. -/
def exec_set_1_e (s : State) : Result := .next (setReg 1 .e s)

/-- SET 1,H: R255. -/
def exec_set_1_h (s : State) : Result := .next (setReg 1 .h s)

/-- SET 1,L: R255. -/
def exec_set_1_l (s : State) : Result := .next (setReg 1 .l s)

/-- SET 1,(HL): R256. -/
def exec_set_1_mhl (s : State) : Result := .next (setHlBit 1 s)

/-- SET 1,A: R255. -/
def exec_set_1_a (s : State) : Result := .next (setReg 1 .a s)

/-- SET 2,B: R255. -/
def exec_set_2_b (s : State) : Result := .next (setReg 2 .b s)

/-- SET 2,C: R255. -/
def exec_set_2_c (s : State) : Result := .next (setReg 2 .c s)

/-- SET 2,D: R255. -/
def exec_set_2_d (s : State) : Result := .next (setReg 2 .d s)

/-- SET 2,E: R255. -/
def exec_set_2_e (s : State) : Result := .next (setReg 2 .e s)

/-- SET 2,H: R255. -/
def exec_set_2_h (s : State) : Result := .next (setReg 2 .h s)

/-- SET 2,L: R255. -/
def exec_set_2_l (s : State) : Result := .next (setReg 2 .l s)

/-- SET 2,(HL): R256. -/
def exec_set_2_mhl (s : State) : Result := .next (setHlBit 2 s)

/-- SET 2,A: R255. -/
def exec_set_2_a (s : State) : Result := .next (setReg 2 .a s)

/-- SET 3,B: R255. -/
def exec_set_3_b (s : State) : Result := .next (setReg 3 .b s)

/-- SET 3,C: R255. -/
def exec_set_3_c (s : State) : Result := .next (setReg 3 .c s)

/-- SET 3,D: R255. -/
def exec_set_3_d (s : State) : Result := .next (setReg 3 .d s)

/-- SET 3,E: R255. -/
def exec_set_3_e (s : State) : Result := .next (setReg 3 .e s)

/-- SET 3,H: R255. -/
def exec_set_3_h (s : State) : Result := .next (setReg 3 .h s)

/-- SET 3,L: R255. -/
def exec_set_3_l (s : State) : Result := .next (setReg 3 .l s)

/-- SET 3,(HL): R256. -/
def exec_set_3_mhl (s : State) : Result := .next (setHlBit 3 s)

/-- SET 3,A: R255. -/
def exec_set_3_a (s : State) : Result := .next (setReg 3 .a s)

/-- SET 4,B: R255. -/
def exec_set_4_b (s : State) : Result := .next (setReg 4 .b s)

/-- SET 4,C: R255. -/
def exec_set_4_c (s : State) : Result := .next (setReg 4 .c s)

/-- SET 4,D: R255. -/
def exec_set_4_d (s : State) : Result := .next (setReg 4 .d s)

/-- SET 4,E: R255. -/
def exec_set_4_e (s : State) : Result := .next (setReg 4 .e s)

/-- SET 4,H: R255. -/
def exec_set_4_h (s : State) : Result := .next (setReg 4 .h s)

/-- SET 4,L: R255. -/
def exec_set_4_l (s : State) : Result := .next (setReg 4 .l s)

/-- SET 4,(HL): R256. -/
def exec_set_4_mhl (s : State) : Result := .next (setHlBit 4 s)

/-- SET 4,A: R255. -/
def exec_set_4_a (s : State) : Result := .next (setReg 4 .a s)

/-- SET 5,B: R255. -/
def exec_set_5_b (s : State) : Result := .next (setReg 5 .b s)

/-- SET 5,C: R255. -/
def exec_set_5_c (s : State) : Result := .next (setReg 5 .c s)

/-- SET 5,D: R255. -/
def exec_set_5_d (s : State) : Result := .next (setReg 5 .d s)

/-- SET 5,E: R255. -/
def exec_set_5_e (s : State) : Result := .next (setReg 5 .e s)

/-- SET 5,H: R255. -/
def exec_set_5_h (s : State) : Result := .next (setReg 5 .h s)

/-- SET 5,L: R255. -/
def exec_set_5_l (s : State) : Result := .next (setReg 5 .l s)

/-- SET 5,(HL): R256. -/
def exec_set_5_mhl (s : State) : Result := .next (setHlBit 5 s)

/-- SET 5,A: R255. -/
def exec_set_5_a (s : State) : Result := .next (setReg 5 .a s)

/-- SET 6,B: R255. -/
def exec_set_6_b (s : State) : Result := .next (setReg 6 .b s)

/-- SET 6,C: R255. -/
def exec_set_6_c (s : State) : Result := .next (setReg 6 .c s)

/-- SET 6,D: R255. -/
def exec_set_6_d (s : State) : Result := .next (setReg 6 .d s)

/-- SET 6,E: R255. -/
def exec_set_6_e (s : State) : Result := .next (setReg 6 .e s)

/-- SET 6,H: R255. -/
def exec_set_6_h (s : State) : Result := .next (setReg 6 .h s)

/-- SET 6,L: R255. -/
def exec_set_6_l (s : State) : Result := .next (setReg 6 .l s)

/-- SET 6,(HL): R256. -/
def exec_set_6_mhl (s : State) : Result := .next (setHlBit 6 s)

/-- SET 6,A: R255. -/
def exec_set_6_a (s : State) : Result := .next (setReg 6 .a s)

/-- SET 7,B: R255. -/
def exec_set_7_b (s : State) : Result := .next (setReg 7 .b s)

/-- SET 7,C: R255. -/
def exec_set_7_c (s : State) : Result := .next (setReg 7 .c s)

/-- SET 7,D: R255. -/
def exec_set_7_d (s : State) : Result := .next (setReg 7 .d s)

/-- SET 7,E: R255. -/
def exec_set_7_e (s : State) : Result := .next (setReg 7 .e s)

/-- SET 7,H: R255. -/
def exec_set_7_h (s : State) : Result := .next (setReg 7 .h s)

/-- SET 7,L: R255. -/
def exec_set_7_l (s : State) : Result := .next (setReg 7 .l s)

/-- SET 7,(HL): R256. -/
def exec_set_7_mhl (s : State) : Result := .next (setHlBit 7 s)

/-- SET 7,A: R255. -/
def exec_set_7_a (s : State) : Result := .next (setReg 7 .a s)

end Sys2Proof.Machine
end

