-- ==== Sys2Proof/Machine/RotateShift.lean ====
section
/-!
DEFINITION. Rotates and shifts (45_rotate_shift_bit.md R231 to R250): the shared operations, and one
meaning for each row.
-/

namespace Sys2Proof.Machine

open Sys2Proof

/-- `RLCA`, `RRCA`, `RLA`, `RRA` (R231 to R234), flags `000C`. -/
def rotA (op : RotOp) (s : State) : State :=
  let res := rotCalc op s.a (flagC s.f)
  { s with a := res.r }.withFlags policy000C res.flags

/-- A prefixed rotate or shift of a register (R235 to R249). -/
def rotReg (op : RotOp) (r : Reg8) (s : State) : State :=
  let res := rotCalc op (s.r8 r) (flagC s.f)
  (s.setR8 r res.r).withFlags (rotPolicy op) res.flags

/-- A prefixed rotate or shift of the byte at HL (R236 to R250): a read and a later write. -/
def rotHl (op : RotOp) (s : State) : State :=
  let p := s.busRead s.hl
  let res := rotCalc op p.1 (flagC s.f)
  (p.2.busWrite s.hl res.r).withFlags (rotPolicy op) res.flags

/-! ### The meanings, one for each row -/

/-- RLCA: R231. -/
def exec_rlca (s : State) : Result := .next (rotA .rlc s)

/-- RRCA: R232. -/
def exec_rrca (s : State) : Result := .next (rotA .rrc s)

/-- RLA: R233. -/
def exec_rla (s : State) : Result := .next (rotA .rl s)

/-- RRA: R234. -/
def exec_rra (s : State) : Result := .next (rotA .rr s)

/-- RLC B: R235. -/
def exec_rlc_b (s : State) : Result := .next (rotReg .rlc .b s)

/-- RLC C: R235. -/
def exec_rlc_c (s : State) : Result := .next (rotReg .rlc .c s)

/-- RLC D: R235. -/
def exec_rlc_d (s : State) : Result := .next (rotReg .rlc .d s)

/-- RLC E: R235. -/
def exec_rlc_e (s : State) : Result := .next (rotReg .rlc .e s)

/-- RLC H: R235. -/
def exec_rlc_h (s : State) : Result := .next (rotReg .rlc .h s)

/-- RLC L: R235. -/
def exec_rlc_l (s : State) : Result := .next (rotReg .rlc .l s)

/-- RLC (HL): R236. -/
def exec_rlc_mhl (s : State) : Result := .next (rotHl .rlc s)

/-- RLC A: R235. -/
def exec_rlc_a (s : State) : Result := .next (rotReg .rlc .a s)

/-- RRC B: R237. -/
def exec_rrc_b (s : State) : Result := .next (rotReg .rrc .b s)

/-- RRC C: R237. -/
def exec_rrc_c (s : State) : Result := .next (rotReg .rrc .c s)

/-- RRC D: R237. -/
def exec_rrc_d (s : State) : Result := .next (rotReg .rrc .d s)

/-- RRC E: R237. -/
def exec_rrc_e (s : State) : Result := .next (rotReg .rrc .e s)

/-- RRC H: R237. -/
def exec_rrc_h (s : State) : Result := .next (rotReg .rrc .h s)

/-- RRC L: R237. -/
def exec_rrc_l (s : State) : Result := .next (rotReg .rrc .l s)

/-- RRC (HL): R238. -/
def exec_rrc_mhl (s : State) : Result := .next (rotHl .rrc s)

/-- RRC A: R237. -/
def exec_rrc_a (s : State) : Result := .next (rotReg .rrc .a s)

/-- RL B: R239. -/
def exec_rl_b (s : State) : Result := .next (rotReg .rl .b s)

/-- RL C: R239. -/
def exec_rl_c (s : State) : Result := .next (rotReg .rl .c s)

/-- RL D: R239. -/
def exec_rl_d (s : State) : Result := .next (rotReg .rl .d s)

/-- RL E: R239. -/
def exec_rl_e (s : State) : Result := .next (rotReg .rl .e s)

/-- RL H: R239. -/
def exec_rl_h (s : State) : Result := .next (rotReg .rl .h s)

/-- RL L: R239. -/
def exec_rl_l (s : State) : Result := .next (rotReg .rl .l s)

/-- RL (HL): R240. -/
def exec_rl_mhl (s : State) : Result := .next (rotHl .rl s)

/-- RL A: R239. -/
def exec_rl_a (s : State) : Result := .next (rotReg .rl .a s)

/-- RR B: R241. -/
def exec_rr_b (s : State) : Result := .next (rotReg .rr .b s)

/-- RR C: R241. -/
def exec_rr_c (s : State) : Result := .next (rotReg .rr .c s)

/-- RR D: R241. -/
def exec_rr_d (s : State) : Result := .next (rotReg .rr .d s)

/-- RR E: R241. -/
def exec_rr_e (s : State) : Result := .next (rotReg .rr .e s)

/-- RR H: R241. -/
def exec_rr_h (s : State) : Result := .next (rotReg .rr .h s)

/-- RR L: R241. -/
def exec_rr_l (s : State) : Result := .next (rotReg .rr .l s)

/-- RR (HL): R242. -/
def exec_rr_mhl (s : State) : Result := .next (rotHl .rr s)

/-- RR A: R241. -/
def exec_rr_a (s : State) : Result := .next (rotReg .rr .a s)

/-- SLA B: R243. -/
def exec_sla_b (s : State) : Result := .next (rotReg .sla .b s)

/-- SLA C: R243. -/
def exec_sla_c (s : State) : Result := .next (rotReg .sla .c s)

/-- SLA D: R243. -/
def exec_sla_d (s : State) : Result := .next (rotReg .sla .d s)

/-- SLA E: R243. -/
def exec_sla_e (s : State) : Result := .next (rotReg .sla .e s)

/-- SLA H: R243. -/
def exec_sla_h (s : State) : Result := .next (rotReg .sla .h s)

/-- SLA L: R243. -/
def exec_sla_l (s : State) : Result := .next (rotReg .sla .l s)

/-- SLA (HL): R244. -/
def exec_sla_mhl (s : State) : Result := .next (rotHl .sla s)

/-- SLA A: R243. -/
def exec_sla_a (s : State) : Result := .next (rotReg .sla .a s)

/-- SRA B: R245. -/
def exec_sra_b (s : State) : Result := .next (rotReg .sra .b s)

/-- SRA C: R245. -/
def exec_sra_c (s : State) : Result := .next (rotReg .sra .c s)

/-- SRA D: R245. -/
def exec_sra_d (s : State) : Result := .next (rotReg .sra .d s)

/-- SRA E: R245. -/
def exec_sra_e (s : State) : Result := .next (rotReg .sra .e s)

/-- SRA H: R245. -/
def exec_sra_h (s : State) : Result := .next (rotReg .sra .h s)

/-- SRA L: R245. -/
def exec_sra_l (s : State) : Result := .next (rotReg .sra .l s)

/-- SRA (HL): R246. -/
def exec_sra_mhl (s : State) : Result := .next (rotHl .sra s)

/-- SRA A: R245. -/
def exec_sra_a (s : State) : Result := .next (rotReg .sra .a s)

/-- SWAP B: R247. -/
def exec_swap_b (s : State) : Result := .next (rotReg .swap .b s)

/-- SWAP C: R247. -/
def exec_swap_c (s : State) : Result := .next (rotReg .swap .c s)

/-- SWAP D: R247. -/
def exec_swap_d (s : State) : Result := .next (rotReg .swap .d s)

/-- SWAP E: R247. -/
def exec_swap_e (s : State) : Result := .next (rotReg .swap .e s)

/-- SWAP H: R247. -/
def exec_swap_h (s : State) : Result := .next (rotReg .swap .h s)

/-- SWAP L: R247. -/
def exec_swap_l (s : State) : Result := .next (rotReg .swap .l s)

/-- SWAP (HL): R248. -/
def exec_swap_mhl (s : State) : Result := .next (rotHl .swap s)

/-- SWAP A: R247. -/
def exec_swap_a (s : State) : Result := .next (rotReg .swap .a s)

/-- SRL B: R249. -/
def exec_srl_b (s : State) : Result := .next (rotReg .srl .b s)

/-- SRL C: R249. -/
def exec_srl_c (s : State) : Result := .next (rotReg .srl .c s)

/-- SRL D: R249. -/
def exec_srl_d (s : State) : Result := .next (rotReg .srl .d s)

/-- SRL E: R249. -/
def exec_srl_e (s : State) : Result := .next (rotReg .srl .e s)

/-- SRL H: R249. -/
def exec_srl_h (s : State) : Result := .next (rotReg .srl .h s)

/-- SRL L: R249. -/
def exec_srl_l (s : State) : Result := .next (rotReg .srl .l s)

/-- SRL (HL): R250. -/
def exec_srl_mhl (s : State) : Result := .next (rotHl .srl s)

/-- SRL A: R249. -/
def exec_srl_a (s : State) : Result := .next (rotReg .srl .a s)

end Sys2Proof.Machine
end

