-- ==== Sys2Proof/Machine/Prefixed.lean ====
section
/-!
DEFINITION. The marker 0xCB (47_system.md R285, 30_encoding.md R100, R107, R113): read a second byte
and run the prefixed instruction it selects, by the fields x, y, z of R101 and R113. The decoder never
yields the marker alone (log entry 8): a prefixed pair decodes to the prefixed row.
-/

namespace Sys2Proof.Machine

open Sys2Proof

/-- The register a 3-bit field selects; none is the byte at HL (R108). -/
def fieldReg8 (z : BitVec 3) : Option Reg8 :=
  match z.toNat with
  | 0 => some .b
  | 1 => some .c
  | 2 => some .d
  | 3 => some .e
  | 4 => some .h
  | 5 => some .l
  | 6 => none
  | _ => some .a

/-- The rotate or shift a 3-bit field selects (R111). -/
def fieldRotOp (y : BitVec 3) : RotOp :=
  match y.toNat with
  | 0 => .rlc
  | 1 => .rrc
  | 2 => .rl
  | 3 => .rr
  | 4 => .sla
  | 5 => .sra
  | 6 => .swap
  | _ => .srl

/-- The prefixed instruction a second byte selects (R113). -/
def runPrefixed (op2 : Byte) (s : State) : State :=
  let x := op2.extractLsb' 6 2
  let y := op2.extractLsb' 3 3
  let z := op2.extractLsb' 0 3
  match x.toNat, fieldReg8 z with
  | 0, some r => rotReg (fieldRotOp y) r s
  | 0, none => rotHl (fieldRotOp y) s
  | 1, some r => bitReg y.toFin r s
  | 1, none => bitHl y.toFin s
  | 2, some r => resReg y.toFin r s
  | 2, none => resHl y.toFin s
  | _, some r => setReg y.toFin r s
  | _, none => setHlBit y.toFin s

/-- The marker (R285): PC on entry is at the second byte. -/
def prefixCb (s : State) : State :=
  let p := s.imm8
  runPrefixed p.1 p.2

/-! ### The meanings, one for each row -/

/-- PREFIX CB: R285. -/
def exec_prefix_cb (s : State) : Result := .next (prefixCb s)

end Sys2Proof.Machine
end

