-- ==== Sys2Proof/Machine/System.lean ====
section
/-!
DEFINITION. System instructions and the unmapped bytes (47_system.md R280 to R284, R286): the shared
operations, and one meaning for each row. None changes a flag.
-/

namespace Sys2Proof.Machine

open Sys2Proof

/-- `NOP` (R280). -/
def nop (s : State) : State := s

/-- `HALT` (R281). -/
def halt (s : State) : State := { s with mode := .halt }

/-- `STOP` (R282): the byte after the opcode is ignored. -/
def stop (_n : Byte) (s : State) : State := { s with mode := .stopped }

/-- `DI` (R283). -/
def di (s : State) : State := { s with ime := false, imePending := false }

/-- `EI` (R284): IME itself is not changed. -/
def ei (s : State) : State := { s with imePending := true }

/-- An unmapped opcode byte (R286): a report of the byte and of the address it was fetched from,
which is one below PC, and nothing else. -/
def unmapped (op : Byte) (s : State) : State :=
  { s with reports := s.reports ++ [⟨op, s.pc - 1⟩] }

/-! ### The meanings, one for each row -/

/-- NOP: R280. -/
def exec_nop (s : State) : Result := .next (nop s)

/-- STOP n8: R282. -/
def exec_stop_n8 (n : Byte) (s : State) : Result := .next (stop n s)

/-- HALT: R281. -/
def exec_halt (s : State) : Result := .next (halt s)

/-- ILLEGAL_D3: R286. -/
def exec_illegal_d3 (s : State) : Result := .next (unmapped 0xD3 s)

/-- ILLEGAL_DB: R286. -/
def exec_illegal_db (s : State) : Result := .next (unmapped 0xDB s)

/-- ILLEGAL_DD: R286. -/
def exec_illegal_dd (s : State) : Result := .next (unmapped 0xDD s)

/-- ILLEGAL_E3: R286. -/
def exec_illegal_e3 (s : State) : Result := .next (unmapped 0xE3 s)

/-- ILLEGAL_E4: R286. -/
def exec_illegal_e4 (s : State) : Result := .next (unmapped 0xE4 s)

/-- ILLEGAL_EB: R286. -/
def exec_illegal_eb (s : State) : Result := .next (unmapped 0xEB s)

/-- ILLEGAL_EC: R286. -/
def exec_illegal_ec (s : State) : Result := .next (unmapped 0xEC s)

/-- ILLEGAL_ED: R286. -/
def exec_illegal_ed (s : State) : Result := .next (unmapped 0xED s)

/-- DI: R283. -/
def exec_di (s : State) : Result := .next (di s)

/-- ILLEGAL_F4: R286. -/
def exec_illegal_f4 (s : State) : Result := .next (unmapped 0xF4 s)

/-- EI: R284. -/
def exec_ei (s : State) : Result := .next (ei s)

/-- ILLEGAL_FC: R286. -/
def exec_illegal_fc (s : State) : Result := .next (unmapped 0xFC s)

/-- ILLEGAL_FD: R286. -/
def exec_illegal_fd (s : State) : Result := .next (unmapped 0xFD s)

end Sys2Proof.Machine
end

