-- ==== Sys2Proof/Machine/Timer.lean ====
section
/-!
DEFINITION. The divider and the timer counter (60_exceptions.md R310 to R312) and the accounting part
of a driver step (40_engine.md R120, R133).
-/

namespace Sys2Proof.Machine

open Sys2Proof

/-- `f` applied n times: the body of a `while` whose number of rounds is known. -/
def rounds : Nat → (State → State) → State → State
  | 0, _, s => s
  | n + 1, f, s => rounds n f (f s)

/-- One increment of DIV (R311): 0xFF wraps to 0x00 silently. -/
def divTick (s : State) : State := s.store s.platform.addrDiv (s.live s.platform.addrDiv + 1)

/-- `DivAdvance(c)` (R311): the loop runs once for each whole period in `DIV_PRE + c`. -/
def divAdvance (c : Nat) (s : State) : State :=
  let total := s.divPre + c
  { rounds (total / s.platform.divPeriod) divTick s with divPre := total % s.platform.divPeriod }

/-- One increment of TIMA (R312): at 0xFF it is reloaded from TMA and interrupt 2 is requested. -/
def timaTick (s : State) : State :=
  if s.live s.platform.addrTima = 0xFF then
    (s.store s.platform.addrTima (s.live s.platform.addrTma)).requestInterrupt .timer
  else s.store s.platform.addrTima (s.live s.platform.addrTima + 1)

/-- The timer is enabled: the enable bit of TAC (R35). -/
def timaEnabled (s : State) : Bool := (s.live s.platform.addrTac).getLsbD s.platform.tacEnableBit

/-- The period TAC's rate field selects (R35). -/
def timaPeriodOf (s : State) : Nat :=
  timaPeriod ((s.live s.platform.addrTac).extractLsb' s.platform.tacRateBit 2)

/-- `TimaAdvance(c)` (R312): the loop runs once for each whole period in `TIMA_PRE + c`; nothing
changes while the timer is disabled. -/
def timaAdvance (c : Nat) (s : State) : State :=
  if timaEnabled s then
    let total := s.timaPre + c
    { rounds (total / timaPeriodOf s) timaTick s with timaPre := total % timaPeriodOf s }
  else s

/-- `TimerAdvance(c)` (R310). -/
def timerAdvance (c : Nat) (s : State) : State := timaAdvance c (divAdvance c s)

/-- The accounting part of a driver step of cost c (R120, R133). -/
def account (c : Nat) (s : State) : State := timerAdvance c { s with cycles := s.cycles + c }

end Sys2Proof.Machine
end

