-- ==== Sys2Proof/Machine/Timing.lean ====
section
/-!
DEFINITION. The declared cost of every row in machine cycles (40_engine.md R133, the `cycles` field of
spec/opcode_table.json, 70_reset_and_hazards.md R370), and the platform's `CYCLES(op)`, of which that
table is the default (00_scope.md R6).
-/

namespace Sys2Proof.Machine

open Sys2Proof

/-- The cycle counts of a table entry: one, or [taken, not-taken] for a conditional transfer
(R104, R133). -/
inductive Cycles where
  | one (n : Nat)
  | branch (cc : Cond) (taken notTaken : Nat)
deriving DecidableEq, Repr

/-- The declared counts (R370). The marker's 0 is the table's: its fetch is counted in the prefixed
row's number (R119, R285). -/
def cyclesOf : Instr → Cycles
  | .nop | .inc_b | .dec_b | .rlca | .inc_c | .dec_c
  | .rrca | .stop_n8 _ | .inc_d | .dec_d | .rla | .inc_e
  | .dec_e | .rra | .inc_h | .dec_h | .daa | .inc_l
  | .dec_l | .cpl | .scf | .inc_a | .dec_a | .ccf
  | .ld_b_b | .ld_b_c | .ld_b_d | .ld_b_e | .ld_b_h | .ld_b_l
  | .ld_b_a | .ld_c_b | .ld_c_c | .ld_c_d | .ld_c_e | .ld_c_h
  | .ld_c_l | .ld_c_a | .ld_d_b | .ld_d_c | .ld_d_d | .ld_d_e
  | .ld_d_h | .ld_d_l | .ld_d_a | .ld_e_b | .ld_e_c | .ld_e_d
  | .ld_e_e | .ld_e_h | .ld_e_l | .ld_e_a | .ld_h_b | .ld_h_c
  | .ld_h_d | .ld_h_e | .ld_h_h | .ld_h_l | .ld_h_a | .ld_l_b
  | .ld_l_c | .ld_l_d | .ld_l_e | .ld_l_h | .ld_l_l | .ld_l_a
  | .halt | .ld_a_b | .ld_a_c | .ld_a_d | .ld_a_e | .ld_a_h
  | .ld_a_l | .ld_a_a | .add_a_b | .add_a_c | .add_a_d | .add_a_e
  | .add_a_h | .add_a_l | .add_a_a | .adc_a_b | .adc_a_c | .adc_a_d
  | .adc_a_e | .adc_a_h | .adc_a_l | .adc_a_a | .sub_a_b | .sub_a_c
  | .sub_a_d | .sub_a_e | .sub_a_h | .sub_a_l | .sub_a_a | .sbc_a_b
  | .sbc_a_c | .sbc_a_d | .sbc_a_e | .sbc_a_h | .sbc_a_l | .sbc_a_a
  | .and_a_b | .and_a_c | .and_a_d | .and_a_e | .and_a_h | .and_a_l
  | .and_a_a | .xor_a_b | .xor_a_c | .xor_a_d | .xor_a_e | .xor_a_h
  | .xor_a_l | .xor_a_a | .or_a_b | .or_a_c | .or_a_d | .or_a_e
  | .or_a_h | .or_a_l | .or_a_a | .cp_a_b | .cp_a_c | .cp_a_d
  | .cp_a_e | .cp_a_h | .cp_a_l | .cp_a_a | .illegal_d3 | .illegal_db
  | .illegal_dd | .illegal_e3 | .illegal_e4 | .jp_hl | .illegal_eb | .illegal_ec
  | .illegal_ed | .di | .illegal_f4 | .ei | .illegal_fc | .illegal_fd => .one 1
  | .ld_bc_n16 _ | .ld_de_n16 _ | .jr_e8 _ | .ld_hl_n16 _ | .ld_sp_n16 _ | .inc_mhl
  | .dec_mhl | .ld_mhl_n8 _ | .pop_bc | .pop_de | .ldh_ma8_a _ | .pop_hl
  | .ldh_a_ma8 _ | .pop_af | .ld_hl_sp_e8 _ | .bit_0_mhl | .bit_1_mhl | .bit_2_mhl
  | .bit_3_mhl | .bit_4_mhl | .bit_5_mhl | .bit_6_mhl | .bit_7_mhl => .one 3
  | .ld_mbc_a | .inc_bc | .ld_b_n8 _ | .add_hl_bc | .ld_a_mbc | .dec_bc
  | .ld_c_n8 _ | .ld_mde_a | .inc_de | .ld_d_n8 _ | .add_hl_de | .ld_a_mde
  | .dec_de | .ld_e_n8 _ | .ld_mhli_a | .inc_hl | .ld_h_n8 _ | .add_hl_hl
  | .ld_a_mhli | .dec_hl | .ld_l_n8 _ | .ld_mhld_a | .inc_sp | .add_hl_sp
  | .ld_a_mhld | .dec_sp | .ld_a_n8 _ | .ld_b_mhl | .ld_c_mhl | .ld_d_mhl
  | .ld_e_mhl | .ld_h_mhl | .ld_l_mhl | .ld_mhl_b | .ld_mhl_c | .ld_mhl_d
  | .ld_mhl_e | .ld_mhl_h | .ld_mhl_l | .ld_mhl_a | .ld_a_mhl | .add_a_mhl
  | .adc_a_mhl | .sub_a_mhl | .sbc_a_mhl | .and_a_mhl | .xor_a_mhl | .or_a_mhl
  | .cp_a_mhl | .add_a_n8 _ | .adc_a_n8 _ | .sub_a_n8 _ | .sbc_a_n8 _ | .ldh_mc_a
  | .and_a_n8 _ | .xor_a_n8 _ | .ldh_a_mc | .or_a_n8 _ | .ld_sp_hl | .cp_a_n8 _
  | .rlc_b | .rlc_c | .rlc_d | .rlc_e | .rlc_h | .rlc_l
  | .rlc_a | .rrc_b | .rrc_c | .rrc_d | .rrc_e | .rrc_h
  | .rrc_l | .rrc_a | .rl_b | .rl_c | .rl_d | .rl_e
  | .rl_h | .rl_l | .rl_a | .rr_b | .rr_c | .rr_d
  | .rr_e | .rr_h | .rr_l | .rr_a | .sla_b | .sla_c
  | .sla_d | .sla_e | .sla_h | .sla_l | .sla_a | .sra_b
  | .sra_c | .sra_d | .sra_e | .sra_h | .sra_l | .sra_a
  | .swap_b | .swap_c | .swap_d | .swap_e | .swap_h | .swap_l
  | .swap_a | .srl_b | .srl_c | .srl_d | .srl_e | .srl_h
  | .srl_l | .srl_a | .bit_0_b | .bit_0_c | .bit_0_d | .bit_0_e
  | .bit_0_h | .bit_0_l | .bit_0_a | .bit_1_b | .bit_1_c | .bit_1_d
  | .bit_1_e | .bit_1_h | .bit_1_l | .bit_1_a | .bit_2_b | .bit_2_c
  | .bit_2_d | .bit_2_e | .bit_2_h | .bit_2_l | .bit_2_a | .bit_3_b
  | .bit_3_c | .bit_3_d | .bit_3_e | .bit_3_h | .bit_3_l | .bit_3_a
  | .bit_4_b | .bit_4_c | .bit_4_d | .bit_4_e | .bit_4_h | .bit_4_l
  | .bit_4_a | .bit_5_b | .bit_5_c | .bit_5_d | .bit_5_e | .bit_5_h
  | .bit_5_l | .bit_5_a | .bit_6_b | .bit_6_c | .bit_6_d | .bit_6_e
  | .bit_6_h | .bit_6_l | .bit_6_a | .bit_7_b | .bit_7_c | .bit_7_d
  | .bit_7_e | .bit_7_h | .bit_7_l | .bit_7_a | .res_0_b | .res_0_c
  | .res_0_d | .res_0_e | .res_0_h | .res_0_l | .res_0_a | .res_1_b
  | .res_1_c | .res_1_d | .res_1_e | .res_1_h | .res_1_l | .res_1_a
  | .res_2_b | .res_2_c | .res_2_d | .res_2_e | .res_2_h | .res_2_l
  | .res_2_a | .res_3_b | .res_3_c | .res_3_d | .res_3_e | .res_3_h
  | .res_3_l | .res_3_a | .res_4_b | .res_4_c | .res_4_d | .res_4_e
  | .res_4_h | .res_4_l | .res_4_a | .res_5_b | .res_5_c | .res_5_d
  | .res_5_e | .res_5_h | .res_5_l | .res_5_a | .res_6_b | .res_6_c
  | .res_6_d | .res_6_e | .res_6_h | .res_6_l | .res_6_a | .res_7_b
  | .res_7_c | .res_7_d | .res_7_e | .res_7_h | .res_7_l | .res_7_a
  | .set_0_b | .set_0_c | .set_0_d | .set_0_e | .set_0_h | .set_0_l
  | .set_0_a | .set_1_b | .set_1_c | .set_1_d | .set_1_e | .set_1_h
  | .set_1_l | .set_1_a | .set_2_b | .set_2_c | .set_2_d | .set_2_e
  | .set_2_h | .set_2_l | .set_2_a | .set_3_b | .set_3_c | .set_3_d
  | .set_3_e | .set_3_h | .set_3_l | .set_3_a | .set_4_b | .set_4_c
  | .set_4_d | .set_4_e | .set_4_h | .set_4_l | .set_4_a | .set_5_b
  | .set_5_c | .set_5_d | .set_5_e | .set_5_h | .set_5_l | .set_5_a
  | .set_6_b | .set_6_c | .set_6_d | .set_6_e | .set_6_h | .set_6_l
  | .set_6_a | .set_7_b | .set_7_c | .set_7_d | .set_7_e | .set_7_h
  | .set_7_l | .set_7_a => .one 2
  | .ld_ma16_sp _ => .one 5
  | .jr_nz_e8 _ => .branch .nz 3 2
  | .jr_z_e8 _ => .branch .z 3 2
  | .jr_nc_e8 _ => .branch .nc 3 2
  | .jr_c_e8 _ => .branch .c 3 2
  | .ret_nz => .branch .nz 5 2
  | .jp_nz_a16 _ => .branch .nz 4 3
  | .jp_a16 _ | .push_bc | .rst_00 | .ret | .rst_08 | .push_de
  | .rst_10 | .reti | .rst_18 | .push_hl | .rst_20 | .add_sp_e8 _
  | .ld_ma16_a _ | .rst_28 | .push_af | .rst_30 | .ld_a_ma16 _ | .rst_38
  | .rlc_mhl | .rrc_mhl | .rl_mhl | .rr_mhl | .sla_mhl | .sra_mhl
  | .swap_mhl | .srl_mhl | .res_0_mhl | .res_1_mhl | .res_2_mhl | .res_3_mhl
  | .res_4_mhl | .res_5_mhl | .res_6_mhl | .res_7_mhl | .set_0_mhl | .set_1_mhl
  | .set_2_mhl | .set_3_mhl | .set_4_mhl | .set_5_mhl | .set_6_mhl | .set_7_mhl => .one 4
  | .call_nz_a16 _ => .branch .nz 6 3
  | .ret_z => .branch .z 5 2
  | .jp_z_a16 _ => .branch .z 4 3
  | .prefix_cb => .one 0
  | .call_z_a16 _ => .branch .z 6 3
  | .call_a16 _ => .one 6
  | .ret_nc => .branch .nc 5 2
  | .jp_nc_a16 _ => .branch .nc 4 3
  | .call_nc_a16 _ => .branch .nc 6 3
  | .ret_c => .branch .c 5 2
  | .jp_c_a16 _ => .branch .c 4 3
  | .call_c_a16 _ => .branch .c 6 3

/-- The count that applies: for a conditional transfer the first when the condition holds and the
second when it does not, F being that at entry, which no conditional transfer changes (R133). -/
def Cycles.count (c : Cycles) (f : Byte) : Nat :=
  match c with
  | .one n => n
  | .branch cc taken notTaken => if condHolds cc f then taken else notTaken

/-- The cost of an instruction by the opcode table. -/
def cost (i : Instr) (f : Byte) : Nat := (cyclesOf i).count f

/-- A row's counts, one or two as it had, replaced. -/
def Cycles.withCounts (c : Cycles) (n : Nat × Nat) : Cycles :=
  match c with
  | .one _ => .one n.1
  | .branch cc _ _ => .branch cc n.1 n.2

/-- The declared counts of the platform: `CYCLES(op)` (R6). -/
def Platform.cyclesOf (p : Platform) (i : Instr) : Cycles :=
  match p.cycleChanges.lookup i.tableNumber with
  | none => Machine.cyclesOf i
  | some n => (Machine.cyclesOf i).withCounts n

/-- The cost of an instruction on the platform. -/
def Platform.cost (p : Platform) (i : Instr) (f : Byte) : Nat := (p.cyclesOf i).count f

/-- The cost of an unmapped byte on the platform (R286, R370). -/
def Platform.unmappedCost (p : Platform) (op : Byte) : Nat :=
  match p.cycleChanges.lookup op.toNat with
  | none => 1
  | some n => n.1

end Sys2Proof.Machine
end

