-- ==== Sys2Proof/Machine/Driver.lean ====
section
/-!
DEFINITION. The parts of the driver step that `step` puts together (40_engine.md R120): the promotion
of the delayed enable, fetching and decoding an instruction at PC, and placing an instruction where
the next step fetches it.
-/

namespace Sys2Proof.Machine

open Sys2Proof

/-- The promotion of `IME_PENDING` (R306). -/
def State.promote (s : State) : State :=
  if s.imePending then { s with ime := true, imePending := false } else s

/-- The interrupt this boundary dispatches, if it does: IME = 1 and the lowest-numbered pending
source (R305, R314). -/
def State.toDispatch (s : State) : Option Source :=
  if s.ime then lowestSource s.pending else none

/-- `Decode()` (R107) and the immediates of the instruction (R106), each byte an `Imm8()` at PC
(R124). PC ends past the whole instruction (R24). -/
def State.fetch (s : State) : Instr × State :=
  let op := s.imm8
  match baseEntry op.1 with
  | .plain i => (i, op.2)
  | .byte f =>
    let n := op.2.imm8
    (f n.1, n.2)
  | .word f =>
    let lo := op.2.imm8
    let hi := lo.2.imm8
    (f (word lo.1 hi.1), hi.2)
  | .marker =>
    let op2 := op.2.imm8
    (prefixedEntry op2.1, op2.2)

/-- Put a byte where a read of x gives it: in the image that serves x, or in the live byte of a
region that is not blocked (R60). This is the load from outside that log entry 10 speaks of, not an
access of the CPU. -/
def State.placeByte (s : State) (x : Word) (v : Byte) : State :=
  if s.overlay && decide (x ≤ bootTop) then
    { s with platform := { s.platform with bootImage := s.platform.bootImage.write x.toNat v } }
  else if x ≤ romTop then
    { s with platform := { s.platform with cartImage := s.platform.cartImage.write x.toNat v } }
  else
    { s with
      oamBlocked := if s.platform.inOam x then false else s.oamBlocked
      vramBlocked := if s.platform.inVram x then false else s.vramBlocked }.store x v

/-- Bytes at x and the addresses after it, modulo 0x10000. -/
def State.placeBytes (s : State) (x : Word) : List Byte → State
  | [] => s
  | v :: vs => (s.placeByte x v).placeBytes (x + 1) vs

/-- The bytes placed at PC, and what lets the very next step fetch them: MODE = RUN, no
collaborator's move before them, and IME clear where an interrupt would be dispatched instead. -/
def State.placeProgram (s : State) (bytes : List Byte) : State :=
  let t := { s with mode := .run, moves := [] }.placeBytes s.pc bytes
  match t.toDispatch with
  | none => t
  | some _ => { t with ime := false }

end Sys2Proof.Machine
end

