-- ==== Sys2Proof/Machine/Boundary.lean ====
section
/-!
DEFINITION. One driver step (40_engine.md R120): what `step` calls.
-/

namespace Sys2Proof.Machine

open Sys2Proof

/-- Fetch, decode, execute and account (R107, R120): a byte the platform adds to
`UNMAPPED` is reported and skipped (R114, R286); any other runs its row. -/
def runInstruction (s : State) : Result :=
  let op := s.imm8
  if op.1 ≠ 0xCB ∧ op.1 ∈ s.platform.moreUnmapped then
    .next (account (s.platform.unmappedCost op.1) (unmapped op.1 op.2))
  else
    let p := s.fetch
    match exec p.1 p.2 with
    | .next t => .next (account (s.platform.cost p.1 p.2.f) t)
    | .fault r => .fault r
    | .refused r => .refused r

/-- The boundary from the interrupt test on (R120, R305, R306): dispatch, or promote the delayed
enable and run an instruction. MODE is RUN. -/
def runBoundary (s : State) : Result :=
  match s.toDispatch with
  | some n => .next (account s.platform.dispatchCycles (s.takeInterrupt n))
  | none => runInstruction s.promote

/-- One driver step (R120): nothing is enabled in STOPPED, and none of the moves that may still happen
there (R326) is made, which is a DESIGN CHOICE (log entry 28); otherwise the collaborators' moves of
this boundary come first (R326); in HALT with nothing pending one idle cycle passes (R330), otherwise the driver
wakes (R331). -/
def driverStep (s : State) : Result :=
  match s.mode with
  | .stopped => .fault .stopped
  | .run => runBoundary s.takeMoves
  | .halt =>
    let t := s.takeMoves
    if t.pending = 0 then .next (account idleCycles t)
    else runBoundary { t with mode := .run }

end Sys2Proof.Machine
end

