-- ==== Sys2Proof/Machine/Step.lean ====
section
/-!
DEFINITION. One driver step (40_engine.md R120), and an instruction placed where it is fetched next.
-/

namespace Sys2Proof.Machine

open Sys2Proof

/-- One driver step (R120). -/
def step (s : State) : Host.Outcome State Fault Refusal := driverStep s

/-- `s` with the instruction whose bits are `w` (numbered as spec/opcode_table.json numbers them)
stored where `step` fetches its next instruction (log entries 9 and 10). -/
def State.withFetchWord (s : State) (nbits w : Nat) : State :=
  s.placeProgram (tableBytes nbits w)

end Sys2Proof.Machine
end

