-- ==== Sys2Proof/Safety.lean ====
section
/-!
DEFINITION. The terms the statements use: the machine invariant, and, for each row of the opcode
table, what the rules say it may change: the registers, SP, the flags, and the bytes it stores to.
These tables are written from the rules and from the table's own columns, not from the meanings.
-/

namespace Sys2Proof.Machine

open Sys2Proof

/-- Every listed byte lies above ROM_TOP: storage below 0x8000 is never written (R41, R64). -/
def Memory.aboveRom (m : Memory) : Bool := m.all (fun c => decide (romTop.toNat < c.1))

/-- The registers that have an address (R6). -/
def Platform.registers (p : Platform) : List Word :=
  [p.addrSb, p.addrSc, p.addrDiv, p.addrTima, p.addrTma, p.addrTac, p.addrIf, p.addrLy,
    p.addrBootOff, p.addrIe]

/-- A platform the spec allows: the registers distinct and above 0x7FFF, the two ranges above 0x7FFF
and disjoint (D3), the fields of TAC inside the byte and apart (R35), periods and costs positive
(R45, R120), the three opcode bytes the document itself names not unmapped (D28). -/
def Platform.wf (p : Platform) : Bool :=
  decide p.registers.Nodup && p.registers.all (fun a => decide (romTop < a)) &&
    decide (romTop < p.vramLo) && decide (romTop < p.oamLo) &&
    (decide (p.vramHi < p.oamLo) || decide (p.oamHi < p.vramLo)) &&
    decide (p.tacEnableBit < 8) && decide (p.tacRateBit < 7) &&
    decide (p.tacEnableBit ≠ p.tacRateBit) && decide (p.tacEnableBit ≠ p.tacRateBit + 1) &&
    decide (0 < p.divPeriod) && decide (0 < p.dispatchCycles) &&
    p.moreUnmapped.all (fun b => decide (b ≠ 0x00 ∧ b ≠ 0x01 ∧ b ≠ 0xCB)) &&
    p.cycleChanges.all (fun n => decide (0 < n.2.1) && decide (0 < n.2.2))

/-- The invariant of the machine at a FETCH boundary: the platform is one the spec allows; the three
stores are in canonical form and `mem` lists no address of the ROM range (R41); the low nibble of F
is 0 (R22); `DIV_PRE` is below its period, and `TIMA_PRE` below the selected one while the timer is
enabled (R45); bit 7 of SC reads 0 (R37). -/
abbrev State.Inv (s : State) : Prop :=
  s.platform.wf = true ∧ s.mem.wf = true ∧ s.mem.aboveRom = true ∧
  s.platform.bootImage.wf = true ∧ s.platform.cartImage.wf = true ∧
  s.f &&& 0x0F = 0 ∧ s.divPre < s.platform.divPeriod ∧
  (timaEnabled s = true → s.timaPre < timaPeriodOf s) ∧
  (s.live s.platform.addrSc).getLsbD 7 = false

/-- The only state a step has none from (R120, R332). -/
abbrev State.Enabled (s : State) : Prop := s.mode ≠ .stopped

/-- The address lies in a region whose blocked flag is set (R60, R64, R75). -/
def State.blocked (s : State) (x : Word) : Bool :=
  s.platform.inOam x && s.oamBlocked || s.platform.inVram x && s.vramBlocked

/-- An address that a store keeps and a read gives back: above ROM, not in a blocked region, and
not one of the three registers with a write rule of their own (R64, R66 to R69). -/
def State.plainByte (s : State) (x : Word) : Bool :=
  decide (romTop < x) && !s.blocked x && decide (x ≠ s.platform.addrBootOff) &&
    decide (x ≠ s.platform.addrSc) && decide (x ≠ s.platform.addrDiv)

/-- The result and the four flags of an accumulator operation, as the rules give them over natural
numbers: x is A, y the operand, cin the carry (R181 to R188, and the forced flags of R27). -/
def aluRule (op : AluOp) (x y cin : Nat) : Nat × Flags :=
  match op with
  | .add => ((x + y) % 256,
      ⟨(x + y) % 256 == 0, false, decide (x % 16 + y % 16 > 15), decide (x + y > 255)⟩)
  | .adc => ((x + y + cin) % 256,
      ⟨(x + y + cin) % 256 == 0, false, decide (x % 16 + y % 16 + cin > 15),
        decide (x + y + cin > 255)⟩)
  | .sub => ((x + 256 - y) % 256,
      ⟨(x + 256 - y) % 256 == 0, true, decide (x % 16 < y % 16), decide (y > x)⟩)
  | .sbc => ((x + 512 - y - cin) % 256,
      ⟨(x + 512 - y - cin) % 256 == 0, true, decide (x % 16 < y % 16 + cin), decide (y + cin > x)⟩)
  | .and => (Nat.land x y, ⟨Nat.land x y == 0, false, true, false⟩)
  | .xor => (Nat.xor x y, ⟨Nat.xor x y == 0, false, false, false⟩)
  | .or => (Nat.lor x y, ⟨Nat.lor x y == 0, false, false, false⟩)
  | .cp => (x, ⟨(x + 256 - y) % 256 == 0, true, decide (x % 16 < y % 16), decide (y > x)⟩)

/-- A and F after an accumulator operation with that outcome. -/
def State.withAlu (s : State) (o : Nat × Flags) : State :=
  { s with a := BitVec.ofNat 8 o.1, f := packFlags o.2 s.f }

/-- A and the carry after `DAA`, over natural numbers: a is A before it and n, h, c are the flags
(R217). -/
def daaRule (a : Nat) (n h c : Bool) : Nat × Bool :=
  if n then
    ((a + 256 - (if h then 6 else 0) - (if c then 96 else 0)) % 256, c)
  else
    ((a + (if h || decide (a % 16 > 9) then 6 else 0) +
      (if c || decide (a > 153) then 96 else 0)) % 256, c || decide (a > 153))

/-- Bit i of the result of a rotate or shift of v with carry-in cin, as the words of R230 say it. -/
def rotRuleBit (op : RotOp) (v : Byte) (cin : Bool) (i : Nat) : Bool :=
  match op with
  | .rlc => if i = 0 then v.getLsbD 7 else v.getLsbD (i - 1)
  | .rrc => if i = 7 then v.getLsbD 0 else v.getLsbD (i + 1)
  | .rl => if i = 0 then cin else v.getLsbD (i - 1)
  | .rr => if i = 7 then cin else v.getLsbD (i + 1)
  | .sla => if i = 0 then false else v.getLsbD (i - 1)
  | .sra => if i = 7 then v.getLsbD 7 else v.getLsbD (i + 1)
  | .swap => if i < 4 then v.getLsbD (i + 4) else v.getLsbD (i - 4)
  | .srl => if i = 7 then false else v.getLsbD (i + 1)

/-- The row an instruction runs: for the marker the prefixed row its second byte selects (R285),
for any other row itself. -/
def effective (i : Instr) (s : State) : Instr :=
  match i with
  | .prefix_cb => prefixedEntry s.imm8.1
  | i => i

/-- The `flags` column of spec/opcode_table.json, in Z N H C order (R9, R27). -/
def flagPolicyOf : Instr → Policy
  | .nop | .ld_bc_n16 _ | .ld_mbc_a | .inc_bc | .ld_b_n8 _ | .ld_ma16_sp _ | .ld_a_mbc |
    .dec_bc | .ld_c_n8 _ | .stop_n8 _ | .ld_de_n16 _ | .ld_mde_a | .inc_de | .ld_d_n8 _ |
    .jr_e8 _ | .ld_a_mde | .dec_de | .ld_e_n8 _ | .jr_nz_e8 _ | .ld_hl_n16 _ | .ld_mhli_a |
    .inc_hl | .ld_h_n8 _ | .jr_z_e8 _ | .ld_a_mhli | .dec_hl | .ld_l_n8 _ | .jr_nc_e8 _ |
    .ld_sp_n16 _ | .ld_mhld_a | .inc_sp | .ld_mhl_n8 _ | .jr_c_e8 _ | .ld_a_mhld | .dec_sp |
    .ld_a_n8 _ | .ld_b_b | .ld_b_c | .ld_b_d | .ld_b_e | .ld_b_h | .ld_b_l | .ld_b_mhl |
    .ld_b_a | .ld_c_b | .ld_c_c | .ld_c_d | .ld_c_e | .ld_c_h | .ld_c_l | .ld_c_mhl | .ld_c_a |
    .ld_d_b | .ld_d_c | .ld_d_d | .ld_d_e | .ld_d_h | .ld_d_l | .ld_d_mhl | .ld_d_a | .ld_e_b |
    .ld_e_c | .ld_e_d | .ld_e_e | .ld_e_h | .ld_e_l | .ld_e_mhl | .ld_e_a | .ld_h_b | .ld_h_c |
    .ld_h_d | .ld_h_e | .ld_h_h | .ld_h_l | .ld_h_mhl | .ld_h_a | .ld_l_b | .ld_l_c | .ld_l_d |
    .ld_l_e | .ld_l_h | .ld_l_l | .ld_l_mhl | .ld_l_a | .ld_mhl_b | .ld_mhl_c | .ld_mhl_d |
    .ld_mhl_e | .ld_mhl_h | .ld_mhl_l | .halt | .ld_mhl_a | .ld_a_b | .ld_a_c | .ld_a_d |
    .ld_a_e | .ld_a_h | .ld_a_l | .ld_a_mhl | .ld_a_a | .ret_nz | .pop_bc | .jp_nz_a16 _ |
    .jp_a16 _ | .call_nz_a16 _ | .push_bc | .rst_00 | .ret_z | .ret | .jp_z_a16 _ |
    .prefix_cb | .call_z_a16 _ | .call_a16 _ | .rst_08 | .ret_nc | .pop_de | .jp_nc_a16 _ |
    .illegal_d3 | .call_nc_a16 _ | .push_de | .rst_10 | .ret_c | .reti | .jp_c_a16 _ |
    .illegal_db | .call_c_a16 _ | .illegal_dd | .rst_18 | .ldh_ma8_a _ | .pop_hl | .ldh_mc_a |
    .illegal_e3 | .illegal_e4 | .push_hl | .rst_20 | .jp_hl | .ld_ma16_a _ | .illegal_eb |
    .illegal_ec | .illegal_ed | .rst_28 | .ldh_a_ma8 _ | .ldh_a_mc | .di | .illegal_f4 |
    .push_af | .rst_30 | .ld_sp_hl | .ld_a_ma16 _ | .ei | .illegal_fc | .illegal_fd | .rst_38 |
    .res_0_b | .res_0_c | .res_0_d | .res_0_e | .res_0_h | .res_0_l | .res_0_mhl | .res_0_a |
    .res_1_b | .res_1_c | .res_1_d | .res_1_e | .res_1_h | .res_1_l | .res_1_mhl | .res_1_a |
    .res_2_b | .res_2_c | .res_2_d | .res_2_e | .res_2_h | .res_2_l | .res_2_mhl | .res_2_a |
    .res_3_b | .res_3_c | .res_3_d | .res_3_e | .res_3_h | .res_3_l | .res_3_mhl | .res_3_a |
    .res_4_b | .res_4_c | .res_4_d | .res_4_e | .res_4_h | .res_4_l | .res_4_mhl | .res_4_a |
    .res_5_b | .res_5_c | .res_5_d | .res_5_e | .res_5_h | .res_5_l | .res_5_mhl | .res_5_a |
    .res_6_b | .res_6_c | .res_6_d | .res_6_e | .res_6_h | .res_6_l | .res_6_mhl | .res_6_a |
    .res_7_b | .res_7_c | .res_7_d | .res_7_e | .res_7_h | .res_7_l | .res_7_mhl | .res_7_a |
    .set_0_b | .set_0_c | .set_0_d | .set_0_e | .set_0_h | .set_0_l | .set_0_mhl | .set_0_a |
    .set_1_b | .set_1_c | .set_1_d | .set_1_e | .set_1_h | .set_1_l | .set_1_mhl | .set_1_a |
    .set_2_b | .set_2_c | .set_2_d | .set_2_e | .set_2_h | .set_2_l | .set_2_mhl | .set_2_a |
    .set_3_b | .set_3_c | .set_3_d | .set_3_e | .set_3_h | .set_3_l | .set_3_mhl | .set_3_a |
    .set_4_b | .set_4_c | .set_4_d | .set_4_e | .set_4_h | .set_4_l | .set_4_mhl | .set_4_a |
    .set_5_b | .set_5_c | .set_5_d | .set_5_e | .set_5_h | .set_5_l | .set_5_mhl | .set_5_a |
    .set_6_b | .set_6_c | .set_6_d | .set_6_e | .set_6_h | .set_6_l | .set_6_mhl | .set_6_a |
    .set_7_b | .set_7_c | .set_7_d | .set_7_e | .set_7_h | .set_7_l | .set_7_mhl | .set_7_a => ⟨.keep, .keep, .keep, .keep⟩
  | .inc_b | .inc_c | .inc_d | .inc_e | .inc_h | .inc_l | .inc_mhl | .inc_a => ⟨.computed, .zero, .computed, .keep⟩
  | .dec_b | .dec_c | .dec_d | .dec_e | .dec_h | .dec_l | .dec_mhl | .dec_a => ⟨.computed, .one, .computed, .keep⟩
  | .rlca | .rrca | .rla | .rra => ⟨.zero, .zero, .zero, .computed⟩
  | .add_hl_bc | .add_hl_de | .add_hl_hl | .add_hl_sp => ⟨.keep, .zero, .computed, .computed⟩
  | .daa => ⟨.computed, .keep, .zero, .computed⟩
  | .cpl => ⟨.keep, .one, .one, .keep⟩
  | .scf => ⟨.keep, .zero, .zero, .one⟩
  | .ccf => ⟨.keep, .zero, .zero, .computed⟩
  | .add_a_b | .add_a_c | .add_a_d | .add_a_e | .add_a_h | .add_a_l | .add_a_mhl | .add_a_a |
    .adc_a_b | .adc_a_c | .adc_a_d | .adc_a_e | .adc_a_h | .adc_a_l | .adc_a_mhl | .adc_a_a |
    .add_a_n8 _ | .adc_a_n8 _ => ⟨.computed, .zero, .computed, .computed⟩
  | .sub_a_b | .sub_a_c | .sub_a_d | .sub_a_e | .sub_a_h | .sub_a_l | .sub_a_mhl | .sub_a_a |
    .sbc_a_b | .sbc_a_c | .sbc_a_d | .sbc_a_e | .sbc_a_h | .sbc_a_l | .sbc_a_mhl | .sbc_a_a |
    .cp_a_b | .cp_a_c | .cp_a_d | .cp_a_e | .cp_a_h | .cp_a_l | .cp_a_mhl | .cp_a_a |
    .sub_a_n8 _ | .sbc_a_n8 _ | .cp_a_n8 _ => ⟨.computed, .one, .computed, .computed⟩
  | .and_a_b | .and_a_c | .and_a_d | .and_a_e | .and_a_h | .and_a_l | .and_a_mhl | .and_a_a |
    .and_a_n8 _ => ⟨.computed, .zero, .one, .zero⟩
  | .xor_a_b | .xor_a_c | .xor_a_d | .xor_a_e | .xor_a_h | .xor_a_l | .xor_a_mhl | .xor_a_a |
    .or_a_b | .or_a_c | .or_a_d | .or_a_e | .or_a_h | .or_a_l | .or_a_mhl | .or_a_a |
    .xor_a_n8 _ | .or_a_n8 _ | .swap_b | .swap_c | .swap_d | .swap_e | .swap_h | .swap_l |
    .swap_mhl | .swap_a => ⟨.computed, .zero, .zero, .zero⟩
  | .add_sp_e8 _ | .ld_hl_sp_e8 _ => ⟨.zero, .zero, .computed, .computed⟩
  | .pop_af => ⟨.computed, .computed, .computed, .computed⟩
  | .rlc_b | .rlc_c | .rlc_d | .rlc_e | .rlc_h | .rlc_l | .rlc_mhl | .rlc_a | .rrc_b | .rrc_c |
    .rrc_d | .rrc_e | .rrc_h | .rrc_l | .rrc_mhl | .rrc_a | .rl_b | .rl_c | .rl_d | .rl_e |
    .rl_h | .rl_l | .rl_mhl | .rl_a | .rr_b | .rr_c | .rr_d | .rr_e | .rr_h | .rr_l | .rr_mhl |
    .rr_a | .sla_b | .sla_c | .sla_d | .sla_e | .sla_h | .sla_l | .sla_mhl | .sla_a | .sra_b |
    .sra_c | .sra_d | .sra_e | .sra_h | .sra_l | .sra_mhl | .sra_a | .srl_b | .srl_c | .srl_d |
    .srl_e | .srl_h | .srl_l | .srl_mhl | .srl_a => ⟨.computed, .zero, .zero, .computed⟩
  | .bit_0_b | .bit_0_c | .bit_0_d | .bit_0_e | .bit_0_h | .bit_0_l | .bit_0_mhl | .bit_0_a |
    .bit_1_b | .bit_1_c | .bit_1_d | .bit_1_e | .bit_1_h | .bit_1_l | .bit_1_mhl | .bit_1_a |
    .bit_2_b | .bit_2_c | .bit_2_d | .bit_2_e | .bit_2_h | .bit_2_l | .bit_2_mhl | .bit_2_a |
    .bit_3_b | .bit_3_c | .bit_3_d | .bit_3_e | .bit_3_h | .bit_3_l | .bit_3_mhl | .bit_3_a |
    .bit_4_b | .bit_4_c | .bit_4_d | .bit_4_e | .bit_4_h | .bit_4_l | .bit_4_mhl | .bit_4_a |
    .bit_5_b | .bit_5_c | .bit_5_d | .bit_5_e | .bit_5_h | .bit_5_l | .bit_5_mhl | .bit_5_a |
    .bit_6_b | .bit_6_c | .bit_6_d | .bit_6_e | .bit_6_h | .bit_6_l | .bit_6_mhl | .bit_6_a |
    .bit_7_b | .bit_7_c | .bit_7_d | .bit_7_e | .bit_7_h | .bit_7_l | .bit_7_mhl | .bit_7_a => ⟨.computed, .zero, .one, .keep⟩

/-- The 8-bit registers a row may write: its destination operand, the pair a pair operand names, and HL
for the forms with `(HL+)` and `(HL-)` (R108, R109). F is the business of `flagPolicyOf`. -/
def destinations : Instr → List Reg8
  | .nop | .ld_mbc_a | .ld_ma16_sp _ | .stop_n8 _ | .ld_mde_a | .jr_e8 _ | .jr_nz_e8 _ |
    .jr_z_e8 _ | .jr_nc_e8 _ | .ld_sp_n16 _ | .inc_sp | .inc_mhl | .dec_mhl | .ld_mhl_n8 _ |
    .scf | .jr_c_e8 _ | .dec_sp | .ccf | .ld_mhl_b | .ld_mhl_c | .ld_mhl_d | .ld_mhl_e |
    .ld_mhl_h | .ld_mhl_l | .halt | .ld_mhl_a | .cp_a_b | .cp_a_c | .cp_a_d | .cp_a_e |
    .cp_a_h | .cp_a_l | .cp_a_mhl | .cp_a_a | .ret_nz | .jp_nz_a16 _ | .jp_a16 _ |
    .call_nz_a16 _ | .push_bc | .rst_00 | .ret_z | .ret | .jp_z_a16 _ | .prefix_cb |
    .call_z_a16 _ | .call_a16 _ | .rst_08 | .ret_nc | .jp_nc_a16 _ | .illegal_d3 |
    .call_nc_a16 _ | .push_de | .rst_10 | .ret_c | .reti | .jp_c_a16 _ | .illegal_db |
    .call_c_a16 _ | .illegal_dd | .rst_18 | .ldh_ma8_a _ | .ldh_mc_a | .illegal_e3 |
    .illegal_e4 | .push_hl | .rst_20 | .add_sp_e8 _ | .jp_hl | .ld_ma16_a _ | .illegal_eb |
    .illegal_ec | .illegal_ed | .rst_28 | .di | .illegal_f4 | .push_af | .rst_30 | .ld_sp_hl |
    .ei | .illegal_fc | .illegal_fd | .cp_a_n8 _ | .rst_38 | .rlc_mhl | .rrc_mhl | .rl_mhl |
    .rr_mhl | .sla_mhl | .sra_mhl | .swap_mhl | .srl_mhl | .bit_0_b | .bit_0_c | .bit_0_d |
    .bit_0_e | .bit_0_h | .bit_0_l | .bit_0_mhl | .bit_0_a | .bit_1_b | .bit_1_c | .bit_1_d |
    .bit_1_e | .bit_1_h | .bit_1_l | .bit_1_mhl | .bit_1_a | .bit_2_b | .bit_2_c | .bit_2_d |
    .bit_2_e | .bit_2_h | .bit_2_l | .bit_2_mhl | .bit_2_a | .bit_3_b | .bit_3_c | .bit_3_d |
    .bit_3_e | .bit_3_h | .bit_3_l | .bit_3_mhl | .bit_3_a | .bit_4_b | .bit_4_c | .bit_4_d |
    .bit_4_e | .bit_4_h | .bit_4_l | .bit_4_mhl | .bit_4_a | .bit_5_b | .bit_5_c | .bit_5_d |
    .bit_5_e | .bit_5_h | .bit_5_l | .bit_5_mhl | .bit_5_a | .bit_6_b | .bit_6_c | .bit_6_d |
    .bit_6_e | .bit_6_h | .bit_6_l | .bit_6_mhl | .bit_6_a | .bit_7_b | .bit_7_c | .bit_7_d |
    .bit_7_e | .bit_7_h | .bit_7_l | .bit_7_mhl | .bit_7_a | .res_0_mhl | .res_1_mhl |
    .res_2_mhl | .res_3_mhl | .res_4_mhl | .res_5_mhl | .res_6_mhl | .res_7_mhl | .set_0_mhl |
    .set_1_mhl | .set_2_mhl | .set_3_mhl | .set_4_mhl | .set_5_mhl | .set_6_mhl | .set_7_mhl => []
  | .ld_bc_n16 _ | .inc_bc | .dec_bc | .pop_bc => [.b, .c]
  | .inc_b | .dec_b | .ld_b_n8 _ | .ld_b_b | .ld_b_c | .ld_b_d | .ld_b_e | .ld_b_h | .ld_b_l |
    .ld_b_mhl | .ld_b_a | .rlc_b | .rrc_b | .rl_b | .rr_b | .sla_b | .sra_b | .swap_b |
    .srl_b | .res_0_b | .res_1_b | .res_2_b | .res_3_b | .res_4_b | .res_5_b | .res_6_b |
    .res_7_b | .set_0_b | .set_1_b | .set_2_b | .set_3_b | .set_4_b | .set_5_b | .set_6_b |
    .set_7_b => [.b]
  | .rlca | .ld_a_mbc | .rrca | .rla | .ld_a_mde | .rra | .daa | .cpl | .inc_a | .dec_a |
    .ld_a_n8 _ | .ld_a_b | .ld_a_c | .ld_a_d | .ld_a_e | .ld_a_h | .ld_a_l | .ld_a_mhl |
    .ld_a_a | .add_a_b | .add_a_c | .add_a_d | .add_a_e | .add_a_h | .add_a_l | .add_a_mhl |
    .add_a_a | .adc_a_b | .adc_a_c | .adc_a_d | .adc_a_e | .adc_a_h | .adc_a_l | .adc_a_mhl |
    .adc_a_a | .sub_a_b | .sub_a_c | .sub_a_d | .sub_a_e | .sub_a_h | .sub_a_l | .sub_a_mhl |
    .sub_a_a | .sbc_a_b | .sbc_a_c | .sbc_a_d | .sbc_a_e | .sbc_a_h | .sbc_a_l | .sbc_a_mhl |
    .sbc_a_a | .and_a_b | .and_a_c | .and_a_d | .and_a_e | .and_a_h | .and_a_l | .and_a_mhl |
    .and_a_a | .xor_a_b | .xor_a_c | .xor_a_d | .xor_a_e | .xor_a_h | .xor_a_l | .xor_a_mhl |
    .xor_a_a | .or_a_b | .or_a_c | .or_a_d | .or_a_e | .or_a_h | .or_a_l | .or_a_mhl |
    .or_a_a | .add_a_n8 _ | .adc_a_n8 _ | .sub_a_n8 _ | .sbc_a_n8 _ | .and_a_n8 _ |
    .xor_a_n8 _ | .ldh_a_ma8 _ | .pop_af | .ldh_a_mc | .or_a_n8 _ | .ld_a_ma16 _ | .rlc_a |
    .rrc_a | .rl_a | .rr_a | .sla_a | .sra_a | .swap_a | .srl_a | .res_0_a | .res_1_a |
    .res_2_a | .res_3_a | .res_4_a | .res_5_a | .res_6_a | .res_7_a | .set_0_a | .set_1_a |
    .set_2_a | .set_3_a | .set_4_a | .set_5_a | .set_6_a | .set_7_a => [.a]
  | .add_hl_bc | .add_hl_de | .ld_hl_n16 _ | .ld_mhli_a | .inc_hl | .add_hl_hl | .dec_hl |
    .ld_mhld_a | .add_hl_sp | .pop_hl | .ld_hl_sp_e8 _ => [.h, .l]
  | .inc_c | .dec_c | .ld_c_n8 _ | .ld_c_b | .ld_c_c | .ld_c_d | .ld_c_e | .ld_c_h | .ld_c_l |
    .ld_c_mhl | .ld_c_a | .rlc_c | .rrc_c | .rl_c | .rr_c | .sla_c | .sra_c | .swap_c |
    .srl_c | .res_0_c | .res_1_c | .res_2_c | .res_3_c | .res_4_c | .res_5_c | .res_6_c |
    .res_7_c | .set_0_c | .set_1_c | .set_2_c | .set_3_c | .set_4_c | .set_5_c | .set_6_c |
    .set_7_c => [.c]
  | .ld_de_n16 _ | .inc_de | .dec_de | .pop_de => [.d, .e]
  | .inc_d | .dec_d | .ld_d_n8 _ | .ld_d_b | .ld_d_c | .ld_d_d | .ld_d_e | .ld_d_h | .ld_d_l |
    .ld_d_mhl | .ld_d_a | .rlc_d | .rrc_d | .rl_d | .rr_d | .sla_d | .sra_d | .swap_d |
    .srl_d | .res_0_d | .res_1_d | .res_2_d | .res_3_d | .res_4_d | .res_5_d | .res_6_d |
    .res_7_d | .set_0_d | .set_1_d | .set_2_d | .set_3_d | .set_4_d | .set_5_d | .set_6_d |
    .set_7_d => [.d]
  | .inc_e | .dec_e | .ld_e_n8 _ | .ld_e_b | .ld_e_c | .ld_e_d | .ld_e_e | .ld_e_h | .ld_e_l |
    .ld_e_mhl | .ld_e_a | .rlc_e | .rrc_e | .rl_e | .rr_e | .sla_e | .sra_e | .swap_e |
    .srl_e | .res_0_e | .res_1_e | .res_2_e | .res_3_e | .res_4_e | .res_5_e | .res_6_e |
    .res_7_e | .set_0_e | .set_1_e | .set_2_e | .set_3_e | .set_4_e | .set_5_e | .set_6_e |
    .set_7_e => [.e]
  | .inc_h | .dec_h | .ld_h_n8 _ | .ld_h_b | .ld_h_c | .ld_h_d | .ld_h_e | .ld_h_h | .ld_h_l |
    .ld_h_mhl | .ld_h_a | .rlc_h | .rrc_h | .rl_h | .rr_h | .sla_h | .sra_h | .swap_h |
    .srl_h | .res_0_h | .res_1_h | .res_2_h | .res_3_h | .res_4_h | .res_5_h | .res_6_h |
    .res_7_h | .set_0_h | .set_1_h | .set_2_h | .set_3_h | .set_4_h | .set_5_h | .set_6_h |
    .set_7_h => [.h]
  | .ld_a_mhli | .ld_a_mhld => [.a, .h, .l]
  | .inc_l | .dec_l | .ld_l_n8 _ | .ld_l_b | .ld_l_c | .ld_l_d | .ld_l_e | .ld_l_h | .ld_l_l |
    .ld_l_mhl | .ld_l_a | .rlc_l | .rrc_l | .rl_l | .rr_l | .sla_l | .sra_l | .swap_l |
    .srl_l | .res_0_l | .res_1_l | .res_2_l | .res_3_l | .res_4_l | .res_5_l | .res_6_l |
    .res_7_l | .set_0_l | .set_1_l | .set_2_l | .set_3_l | .set_4_l | .set_5_l | .set_6_l |
    .set_7_l => [.l]

/-- The rows that write SP (R23). -/
def writesSp : Instr → Bool
  | .nop | .ld_bc_n16 _ | .ld_mbc_a | .inc_bc | .inc_b | .dec_b | .ld_b_n8 _ | .rlca |
    .ld_ma16_sp _ | .add_hl_bc | .ld_a_mbc | .dec_bc | .inc_c | .dec_c | .ld_c_n8 _ | .rrca |
    .stop_n8 _ | .ld_de_n16 _ | .ld_mde_a | .inc_de | .inc_d | .dec_d | .ld_d_n8 _ | .rla |
    .jr_e8 _ | .add_hl_de | .ld_a_mde | .dec_de | .inc_e | .dec_e | .ld_e_n8 _ | .rra |
    .jr_nz_e8 _ | .ld_hl_n16 _ | .ld_mhli_a | .inc_hl | .inc_h | .dec_h | .ld_h_n8 _ | .daa |
    .jr_z_e8 _ | .add_hl_hl | .ld_a_mhli | .dec_hl | .inc_l | .dec_l | .ld_l_n8 _ | .cpl |
    .jr_nc_e8 _ | .ld_mhld_a | .inc_mhl | .dec_mhl | .ld_mhl_n8 _ | .scf | .jr_c_e8 _ |
    .add_hl_sp | .ld_a_mhld | .inc_a | .dec_a | .ld_a_n8 _ | .ccf | .ld_b_b | .ld_b_c |
    .ld_b_d | .ld_b_e | .ld_b_h | .ld_b_l | .ld_b_mhl | .ld_b_a | .ld_c_b | .ld_c_c | .ld_c_d |
    .ld_c_e | .ld_c_h | .ld_c_l | .ld_c_mhl | .ld_c_a | .ld_d_b | .ld_d_c | .ld_d_d | .ld_d_e |
    .ld_d_h | .ld_d_l | .ld_d_mhl | .ld_d_a | .ld_e_b | .ld_e_c | .ld_e_d | .ld_e_e | .ld_e_h |
    .ld_e_l | .ld_e_mhl | .ld_e_a | .ld_h_b | .ld_h_c | .ld_h_d | .ld_h_e | .ld_h_h | .ld_h_l |
    .ld_h_mhl | .ld_h_a | .ld_l_b | .ld_l_c | .ld_l_d | .ld_l_e | .ld_l_h | .ld_l_l |
    .ld_l_mhl | .ld_l_a | .ld_mhl_b | .ld_mhl_c | .ld_mhl_d | .ld_mhl_e | .ld_mhl_h |
    .ld_mhl_l | .halt | .ld_mhl_a | .ld_a_b | .ld_a_c | .ld_a_d | .ld_a_e | .ld_a_h | .ld_a_l |
    .ld_a_mhl | .ld_a_a | .add_a_b | .add_a_c | .add_a_d | .add_a_e | .add_a_h | .add_a_l |
    .add_a_mhl | .add_a_a | .adc_a_b | .adc_a_c | .adc_a_d | .adc_a_e | .adc_a_h | .adc_a_l |
    .adc_a_mhl | .adc_a_a | .sub_a_b | .sub_a_c | .sub_a_d | .sub_a_e | .sub_a_h | .sub_a_l |
    .sub_a_mhl | .sub_a_a | .sbc_a_b | .sbc_a_c | .sbc_a_d | .sbc_a_e | .sbc_a_h | .sbc_a_l |
    .sbc_a_mhl | .sbc_a_a | .and_a_b | .and_a_c | .and_a_d | .and_a_e | .and_a_h | .and_a_l |
    .and_a_mhl | .and_a_a | .xor_a_b | .xor_a_c | .xor_a_d | .xor_a_e | .xor_a_h | .xor_a_l |
    .xor_a_mhl | .xor_a_a | .or_a_b | .or_a_c | .or_a_d | .or_a_e | .or_a_h | .or_a_l |
    .or_a_mhl | .or_a_a | .cp_a_b | .cp_a_c | .cp_a_d | .cp_a_e | .cp_a_h | .cp_a_l |
    .cp_a_mhl | .cp_a_a | .jp_nz_a16 _ | .jp_a16 _ | .add_a_n8 _ | .jp_z_a16 _ | .prefix_cb |
    .adc_a_n8 _ | .jp_nc_a16 _ | .illegal_d3 | .sub_a_n8 _ | .jp_c_a16 _ | .illegal_db |
    .illegal_dd | .sbc_a_n8 _ | .ldh_ma8_a _ | .ldh_mc_a | .illegal_e3 | .illegal_e4 |
    .and_a_n8 _ | .jp_hl | .ld_ma16_a _ | .illegal_eb | .illegal_ec | .illegal_ed |
    .xor_a_n8 _ | .ldh_a_ma8 _ | .ldh_a_mc | .di | .illegal_f4 | .or_a_n8 _ | .ld_hl_sp_e8 _ |
    .ld_a_ma16 _ | .ei | .illegal_fc | .illegal_fd | .cp_a_n8 _ | .rlc_b | .rlc_c | .rlc_d |
    .rlc_e | .rlc_h | .rlc_l | .rlc_mhl | .rlc_a | .rrc_b | .rrc_c | .rrc_d | .rrc_e | .rrc_h |
    .rrc_l | .rrc_mhl | .rrc_a | .rl_b | .rl_c | .rl_d | .rl_e | .rl_h | .rl_l | .rl_mhl |
    .rl_a | .rr_b | .rr_c | .rr_d | .rr_e | .rr_h | .rr_l | .rr_mhl | .rr_a | .sla_b | .sla_c |
    .sla_d | .sla_e | .sla_h | .sla_l | .sla_mhl | .sla_a | .sra_b | .sra_c | .sra_d | .sra_e |
    .sra_h | .sra_l | .sra_mhl | .sra_a | .swap_b | .swap_c | .swap_d | .swap_e | .swap_h |
    .swap_l | .swap_mhl | .swap_a | .srl_b | .srl_c | .srl_d | .srl_e | .srl_h | .srl_l |
    .srl_mhl | .srl_a | .bit_0_b | .bit_0_c | .bit_0_d | .bit_0_e | .bit_0_h | .bit_0_l |
    .bit_0_mhl | .bit_0_a | .bit_1_b | .bit_1_c | .bit_1_d | .bit_1_e | .bit_1_h | .bit_1_l |
    .bit_1_mhl | .bit_1_a | .bit_2_b | .bit_2_c | .bit_2_d | .bit_2_e | .bit_2_h | .bit_2_l |
    .bit_2_mhl | .bit_2_a | .bit_3_b | .bit_3_c | .bit_3_d | .bit_3_e | .bit_3_h | .bit_3_l |
    .bit_3_mhl | .bit_3_a | .bit_4_b | .bit_4_c | .bit_4_d | .bit_4_e | .bit_4_h | .bit_4_l |
    .bit_4_mhl | .bit_4_a | .bit_5_b | .bit_5_c | .bit_5_d | .bit_5_e | .bit_5_h | .bit_5_l |
    .bit_5_mhl | .bit_5_a | .bit_6_b | .bit_6_c | .bit_6_d | .bit_6_e | .bit_6_h | .bit_6_l |
    .bit_6_mhl | .bit_6_a | .bit_7_b | .bit_7_c | .bit_7_d | .bit_7_e | .bit_7_h | .bit_7_l |
    .bit_7_mhl | .bit_7_a | .res_0_b | .res_0_c | .res_0_d | .res_0_e | .res_0_h | .res_0_l |
    .res_0_mhl | .res_0_a | .res_1_b | .res_1_c | .res_1_d | .res_1_e | .res_1_h | .res_1_l |
    .res_1_mhl | .res_1_a | .res_2_b | .res_2_c | .res_2_d | .res_2_e | .res_2_h | .res_2_l |
    .res_2_mhl | .res_2_a | .res_3_b | .res_3_c | .res_3_d | .res_3_e | .res_3_h | .res_3_l |
    .res_3_mhl | .res_3_a | .res_4_b | .res_4_c | .res_4_d | .res_4_e | .res_4_h | .res_4_l |
    .res_4_mhl | .res_4_a | .res_5_b | .res_5_c | .res_5_d | .res_5_e | .res_5_h | .res_5_l |
    .res_5_mhl | .res_5_a | .res_6_b | .res_6_c | .res_6_d | .res_6_e | .res_6_h | .res_6_l |
    .res_6_mhl | .res_6_a | .res_7_b | .res_7_c | .res_7_d | .res_7_e | .res_7_h | .res_7_l |
    .res_7_mhl | .res_7_a | .set_0_b | .set_0_c | .set_0_d | .set_0_e | .set_0_h | .set_0_l |
    .set_0_mhl | .set_0_a | .set_1_b | .set_1_c | .set_1_d | .set_1_e | .set_1_h | .set_1_l |
    .set_1_mhl | .set_1_a | .set_2_b | .set_2_c | .set_2_d | .set_2_e | .set_2_h | .set_2_l |
    .set_2_mhl | .set_2_a | .set_3_b | .set_3_c | .set_3_d | .set_3_e | .set_3_h | .set_3_l |
    .set_3_mhl | .set_3_a | .set_4_b | .set_4_c | .set_4_d | .set_4_e | .set_4_h | .set_4_l |
    .set_4_mhl | .set_4_a | .set_5_b | .set_5_c | .set_5_d | .set_5_e | .set_5_h | .set_5_l |
    .set_5_mhl | .set_5_a | .set_6_b | .set_6_c | .set_6_d | .set_6_e | .set_6_h | .set_6_l |
    .set_6_mhl | .set_6_a | .set_7_b | .set_7_c | .set_7_d | .set_7_e | .set_7_h | .set_7_l |
    .set_7_mhl | .set_7_a => false
  | .ld_sp_n16 _ | .inc_sp | .dec_sp | .ret_nz | .pop_bc | .call_nz_a16 _ | .push_bc |
    .rst_00 | .ret_z | .ret | .call_z_a16 _ | .call_a16 _ | .rst_08 | .ret_nc | .pop_de |
    .call_nc_a16 _ | .push_de | .rst_10 | .ret_c | .reti | .call_c_a16 _ | .rst_18 | .pop_hl |
    .push_hl | .rst_20 | .add_sp_e8 _ | .rst_28 | .pop_af | .push_af | .rst_30 | .ld_sp_hl |
    .rst_38 => true

/-- The addresses a row stores to through the write contract, computed from the state in which the
row runs: the operand in memory, or the two bytes of the stack slot (R143 to R163, R166, R167, R214,
R216, R236 to R256, R266, R267, R271). -/
def rowStores (i : Instr) (s : State) : List Word :=
  match i with
  | .nop | .ld_bc_n16 _ | .inc_bc | .inc_b | .dec_b | .ld_b_n8 _ | .rlca | .add_hl_bc |
    .ld_a_mbc | .dec_bc | .inc_c | .dec_c | .ld_c_n8 _ | .rrca | .stop_n8 _ | .ld_de_n16 _ |
    .inc_de | .inc_d | .dec_d | .ld_d_n8 _ | .rla | .jr_e8 _ | .add_hl_de | .ld_a_mde |
    .dec_de | .inc_e | .dec_e | .ld_e_n8 _ | .rra | .jr_nz_e8 _ | .ld_hl_n16 _ | .inc_hl |
    .inc_h | .dec_h | .ld_h_n8 _ | .daa | .jr_z_e8 _ | .add_hl_hl | .ld_a_mhli | .dec_hl |
    .inc_l | .dec_l | .ld_l_n8 _ | .cpl | .jr_nc_e8 _ | .ld_sp_n16 _ | .inc_sp | .scf |
    .jr_c_e8 _ | .add_hl_sp | .ld_a_mhld | .dec_sp | .inc_a | .dec_a | .ld_a_n8 _ | .ccf |
    .ld_b_b | .ld_b_c | .ld_b_d | .ld_b_e | .ld_b_h | .ld_b_l | .ld_b_mhl | .ld_b_a |
    .ld_c_b | .ld_c_c | .ld_c_d | .ld_c_e | .ld_c_h | .ld_c_l | .ld_c_mhl | .ld_c_a |
    .ld_d_b | .ld_d_c | .ld_d_d | .ld_d_e | .ld_d_h | .ld_d_l | .ld_d_mhl | .ld_d_a |
    .ld_e_b | .ld_e_c | .ld_e_d | .ld_e_e | .ld_e_h | .ld_e_l | .ld_e_mhl | .ld_e_a |
    .ld_h_b | .ld_h_c | .ld_h_d | .ld_h_e | .ld_h_h | .ld_h_l | .ld_h_mhl | .ld_h_a |
    .ld_l_b | .ld_l_c | .ld_l_d | .ld_l_e | .ld_l_h | .ld_l_l | .ld_l_mhl | .ld_l_a | .halt |
    .ld_a_b | .ld_a_c | .ld_a_d | .ld_a_e | .ld_a_h | .ld_a_l | .ld_a_mhl | .ld_a_a |
    .add_a_b | .add_a_c | .add_a_d | .add_a_e | .add_a_h | .add_a_l | .add_a_mhl | .add_a_a |
    .adc_a_b | .adc_a_c | .adc_a_d | .adc_a_e | .adc_a_h | .adc_a_l | .adc_a_mhl | .adc_a_a |
    .sub_a_b | .sub_a_c | .sub_a_d | .sub_a_e | .sub_a_h | .sub_a_l | .sub_a_mhl | .sub_a_a |
    .sbc_a_b | .sbc_a_c | .sbc_a_d | .sbc_a_e | .sbc_a_h | .sbc_a_l | .sbc_a_mhl | .sbc_a_a |
    .and_a_b | .and_a_c | .and_a_d | .and_a_e | .and_a_h | .and_a_l | .and_a_mhl | .and_a_a |
    .xor_a_b | .xor_a_c | .xor_a_d | .xor_a_e | .xor_a_h | .xor_a_l | .xor_a_mhl | .xor_a_a |
    .or_a_b | .or_a_c | .or_a_d | .or_a_e | .or_a_h | .or_a_l | .or_a_mhl | .or_a_a |
    .cp_a_b | .cp_a_c | .cp_a_d | .cp_a_e | .cp_a_h | .cp_a_l | .cp_a_mhl | .cp_a_a |
    .ret_nz | .pop_bc | .jp_nz_a16 _ | .jp_a16 _ | .add_a_n8 _ | .ret_z | .ret | .jp_z_a16 _ |
    .prefix_cb | .adc_a_n8 _ | .ret_nc | .pop_de | .jp_nc_a16 _ | .illegal_d3 | .sub_a_n8 _ |
    .ret_c | .reti | .jp_c_a16 _ | .illegal_db | .illegal_dd | .sbc_a_n8 _ | .pop_hl |
    .illegal_e3 | .illegal_e4 | .and_a_n8 _ | .add_sp_e8 _ | .jp_hl | .illegal_eb |
    .illegal_ec | .illegal_ed | .xor_a_n8 _ | .ldh_a_ma8 _ | .pop_af | .ldh_a_mc | .di |
    .illegal_f4 | .or_a_n8 _ | .ld_hl_sp_e8 _ | .ld_sp_hl | .ld_a_ma16 _ | .ei | .illegal_fc |
    .illegal_fd | .cp_a_n8 _ | .rlc_b | .rlc_c | .rlc_d | .rlc_e | .rlc_h | .rlc_l | .rlc_a |
    .rrc_b | .rrc_c | .rrc_d | .rrc_e | .rrc_h | .rrc_l | .rrc_a | .rl_b | .rl_c | .rl_d |
    .rl_e | .rl_h | .rl_l | .rl_a | .rr_b | .rr_c | .rr_d | .rr_e | .rr_h | .rr_l | .rr_a |
    .sla_b | .sla_c | .sla_d | .sla_e | .sla_h | .sla_l | .sla_a | .sra_b | .sra_c | .sra_d |
    .sra_e | .sra_h | .sra_l | .sra_a | .swap_b | .swap_c | .swap_d | .swap_e | .swap_h |
    .swap_l | .swap_a | .srl_b | .srl_c | .srl_d | .srl_e | .srl_h | .srl_l | .srl_a |
    .bit_0_b | .bit_0_c | .bit_0_d | .bit_0_e | .bit_0_h | .bit_0_l | .bit_0_mhl | .bit_0_a |
    .bit_1_b | .bit_1_c | .bit_1_d | .bit_1_e | .bit_1_h | .bit_1_l | .bit_1_mhl | .bit_1_a |
    .bit_2_b | .bit_2_c | .bit_2_d | .bit_2_e | .bit_2_h | .bit_2_l | .bit_2_mhl | .bit_2_a |
    .bit_3_b | .bit_3_c | .bit_3_d | .bit_3_e | .bit_3_h | .bit_3_l | .bit_3_mhl | .bit_3_a |
    .bit_4_b | .bit_4_c | .bit_4_d | .bit_4_e | .bit_4_h | .bit_4_l | .bit_4_mhl | .bit_4_a |
    .bit_5_b | .bit_5_c | .bit_5_d | .bit_5_e | .bit_5_h | .bit_5_l | .bit_5_mhl | .bit_5_a |
    .bit_6_b | .bit_6_c | .bit_6_d | .bit_6_e | .bit_6_h | .bit_6_l | .bit_6_mhl | .bit_6_a |
    .bit_7_b | .bit_7_c | .bit_7_d | .bit_7_e | .bit_7_h | .bit_7_l | .bit_7_mhl | .bit_7_a |
    .res_0_b | .res_0_c | .res_0_d | .res_0_e | .res_0_h | .res_0_l | .res_0_a | .res_1_b |
    .res_1_c | .res_1_d | .res_1_e | .res_1_h | .res_1_l | .res_1_a | .res_2_b | .res_2_c |
    .res_2_d | .res_2_e | .res_2_h | .res_2_l | .res_2_a | .res_3_b | .res_3_c | .res_3_d |
    .res_3_e | .res_3_h | .res_3_l | .res_3_a | .res_4_b | .res_4_c | .res_4_d | .res_4_e |
    .res_4_h | .res_4_l | .res_4_a | .res_5_b | .res_5_c | .res_5_d | .res_5_e | .res_5_h |
    .res_5_l | .res_5_a | .res_6_b | .res_6_c | .res_6_d | .res_6_e | .res_6_h | .res_6_l |
    .res_6_a | .res_7_b | .res_7_c | .res_7_d | .res_7_e | .res_7_h | .res_7_l | .res_7_a |
    .set_0_b | .set_0_c | .set_0_d | .set_0_e | .set_0_h | .set_0_l | .set_0_a | .set_1_b |
    .set_1_c | .set_1_d | .set_1_e | .set_1_h | .set_1_l | .set_1_a | .set_2_b | .set_2_c |
    .set_2_d | .set_2_e | .set_2_h | .set_2_l | .set_2_a | .set_3_b | .set_3_c | .set_3_d |
    .set_3_e | .set_3_h | .set_3_l | .set_3_a | .set_4_b | .set_4_c | .set_4_d | .set_4_e |
    .set_4_h | .set_4_l | .set_4_a | .set_5_b | .set_5_c | .set_5_d | .set_5_e | .set_5_h |
    .set_5_l | .set_5_a | .set_6_b | .set_6_c | .set_6_d | .set_6_e | .set_6_h | .set_6_l |
    .set_6_a | .set_7_b | .set_7_c | .set_7_d | .set_7_e | .set_7_h | .set_7_l | .set_7_a => []
  | .ld_mbc_a => [s.bc]
  | .ld_ma16_sp a => [a, a + 1]
  | .ld_mde_a => [s.de]
  | .ld_mhli_a | .ld_mhld_a | .inc_mhl | .dec_mhl | .ld_mhl_n8 _ | .ld_mhl_b | .ld_mhl_c |
    .ld_mhl_d | .ld_mhl_e | .ld_mhl_h | .ld_mhl_l | .ld_mhl_a | .rlc_mhl | .rrc_mhl |
    .rl_mhl | .rr_mhl | .sla_mhl | .sra_mhl | .swap_mhl | .srl_mhl | .res_0_mhl | .res_1_mhl |
    .res_2_mhl | .res_3_mhl | .res_4_mhl | .res_5_mhl | .res_6_mhl | .res_7_mhl | .set_0_mhl |
    .set_1_mhl | .set_2_mhl | .set_3_mhl | .set_4_mhl | .set_5_mhl | .set_6_mhl | .set_7_mhl => [s.hl]
  | .call_nz_a16 _ => if condHolds .nz s.f then [s.sp - 2, s.sp - 1] else []
  | .push_bc | .rst_00 | .call_a16 _ | .rst_08 | .push_de | .rst_10 | .rst_18 | .push_hl |
    .rst_20 | .rst_28 | .push_af | .rst_30 | .rst_38 => [s.sp - 2, s.sp - 1]
  | .call_z_a16 _ => if condHolds .z s.f then [s.sp - 2, s.sp - 1] else []
  | .call_nc_a16 _ => if condHolds .nc s.f then [s.sp - 2, s.sp - 1] else []
  | .call_c_a16 _ => if condHolds .c s.f then [s.sp - 2, s.sp - 1] else []
  | .ldh_ma8_a n => [highPage n]
  | .ldh_mc_a => [highPage s.c]
  | .ld_ma16_a a => [a]

/-- How many data bytes a row reads and writes: its accesses beyond the fetch of its own bytes, counted
from the rules of files 41 to 47 (R74, R123). A conditional call or return makes its two only when the
condition holds (R129). -/
def dataAccesses (i : Instr) (f : Byte) : Nat :=
  match i with
  | .nop | .ld_bc_n16 _ | .inc_bc | .inc_b | .dec_b | .ld_b_n8 _ | .rlca | .add_hl_bc |
    .dec_bc | .inc_c | .dec_c | .ld_c_n8 _ | .rrca | .stop_n8 _ | .ld_de_n16 _ | .inc_de |
    .inc_d | .dec_d | .ld_d_n8 _ | .rla | .jr_e8 _ | .add_hl_de | .dec_de | .inc_e | .dec_e |
    .ld_e_n8 _ | .rra | .jr_nz_e8 _ | .ld_hl_n16 _ | .inc_hl | .inc_h | .dec_h | .ld_h_n8 _ |
    .daa | .jr_z_e8 _ | .add_hl_hl | .dec_hl | .inc_l | .dec_l | .ld_l_n8 _ | .cpl |
    .jr_nc_e8 _ | .ld_sp_n16 _ | .inc_sp | .scf | .jr_c_e8 _ | .add_hl_sp | .dec_sp | .inc_a |
    .dec_a | .ld_a_n8 _ | .ccf | .ld_b_b | .ld_b_c | .ld_b_d | .ld_b_e | .ld_b_h | .ld_b_l |
    .ld_b_a | .ld_c_b | .ld_c_c | .ld_c_d | .ld_c_e | .ld_c_h | .ld_c_l | .ld_c_a | .ld_d_b |
    .ld_d_c | .ld_d_d | .ld_d_e | .ld_d_h | .ld_d_l | .ld_d_a | .ld_e_b | .ld_e_c | .ld_e_d |
    .ld_e_e | .ld_e_h | .ld_e_l | .ld_e_a | .ld_h_b | .ld_h_c | .ld_h_d | .ld_h_e | .ld_h_h |
    .ld_h_l | .ld_h_a | .ld_l_b | .ld_l_c | .ld_l_d | .ld_l_e | .ld_l_h | .ld_l_l | .ld_l_a |
    .halt | .ld_a_b | .ld_a_c | .ld_a_d | .ld_a_e | .ld_a_h | .ld_a_l | .ld_a_a | .add_a_b |
    .add_a_c | .add_a_d | .add_a_e | .add_a_h | .add_a_l | .add_a_a | .adc_a_b | .adc_a_c |
    .adc_a_d | .adc_a_e | .adc_a_h | .adc_a_l | .adc_a_a | .sub_a_b | .sub_a_c | .sub_a_d |
    .sub_a_e | .sub_a_h | .sub_a_l | .sub_a_a | .sbc_a_b | .sbc_a_c | .sbc_a_d | .sbc_a_e |
    .sbc_a_h | .sbc_a_l | .sbc_a_a | .and_a_b | .and_a_c | .and_a_d | .and_a_e | .and_a_h |
    .and_a_l | .and_a_a | .xor_a_b | .xor_a_c | .xor_a_d | .xor_a_e | .xor_a_h | .xor_a_l |
    .xor_a_a | .or_a_b | .or_a_c | .or_a_d | .or_a_e | .or_a_h | .or_a_l | .or_a_a | .cp_a_b |
    .cp_a_c | .cp_a_d | .cp_a_e | .cp_a_h | .cp_a_l | .cp_a_a | .jp_nz_a16 _ | .jp_a16 _ |
    .add_a_n8 _ | .jp_z_a16 _ | .prefix_cb | .adc_a_n8 _ | .jp_nc_a16 _ | .illegal_d3 |
    .sub_a_n8 _ | .jp_c_a16 _ | .illegal_db | .illegal_dd | .sbc_a_n8 _ | .illegal_e3 |
    .illegal_e4 | .and_a_n8 _ | .add_sp_e8 _ | .jp_hl | .illegal_eb | .illegal_ec |
    .illegal_ed | .xor_a_n8 _ | .di | .illegal_f4 | .or_a_n8 _ | .ld_hl_sp_e8 _ | .ld_sp_hl |
    .ei | .illegal_fc | .illegal_fd | .cp_a_n8 _ | .rlc_b | .rlc_c | .rlc_d | .rlc_e |
    .rlc_h | .rlc_l | .rlc_a | .rrc_b | .rrc_c | .rrc_d | .rrc_e | .rrc_h | .rrc_l | .rrc_a |
    .rl_b | .rl_c | .rl_d | .rl_e | .rl_h | .rl_l | .rl_a | .rr_b | .rr_c | .rr_d | .rr_e |
    .rr_h | .rr_l | .rr_a | .sla_b | .sla_c | .sla_d | .sla_e | .sla_h | .sla_l | .sla_a |
    .sra_b | .sra_c | .sra_d | .sra_e | .sra_h | .sra_l | .sra_a | .swap_b | .swap_c |
    .swap_d | .swap_e | .swap_h | .swap_l | .swap_a | .srl_b | .srl_c | .srl_d | .srl_e |
    .srl_h | .srl_l | .srl_a | .bit_0_b | .bit_0_c | .bit_0_d | .bit_0_e | .bit_0_h |
    .bit_0_l | .bit_0_a | .bit_1_b | .bit_1_c | .bit_1_d | .bit_1_e | .bit_1_h | .bit_1_l |
    .bit_1_a | .bit_2_b | .bit_2_c | .bit_2_d | .bit_2_e | .bit_2_h | .bit_2_l | .bit_2_a |
    .bit_3_b | .bit_3_c | .bit_3_d | .bit_3_e | .bit_3_h | .bit_3_l | .bit_3_a | .bit_4_b |
    .bit_4_c | .bit_4_d | .bit_4_e | .bit_4_h | .bit_4_l | .bit_4_a | .bit_5_b | .bit_5_c |
    .bit_5_d | .bit_5_e | .bit_5_h | .bit_5_l | .bit_5_a | .bit_6_b | .bit_6_c | .bit_6_d |
    .bit_6_e | .bit_6_h | .bit_6_l | .bit_6_a | .bit_7_b | .bit_7_c | .bit_7_d | .bit_7_e |
    .bit_7_h | .bit_7_l | .bit_7_a | .res_0_b | .res_0_c | .res_0_d | .res_0_e | .res_0_h |
    .res_0_l | .res_0_a | .res_1_b | .res_1_c | .res_1_d | .res_1_e | .res_1_h | .res_1_l |
    .res_1_a | .res_2_b | .res_2_c | .res_2_d | .res_2_e | .res_2_h | .res_2_l | .res_2_a |
    .res_3_b | .res_3_c | .res_3_d | .res_3_e | .res_3_h | .res_3_l | .res_3_a | .res_4_b |
    .res_4_c | .res_4_d | .res_4_e | .res_4_h | .res_4_l | .res_4_a | .res_5_b | .res_5_c |
    .res_5_d | .res_5_e | .res_5_h | .res_5_l | .res_5_a | .res_6_b | .res_6_c | .res_6_d |
    .res_6_e | .res_6_h | .res_6_l | .res_6_a | .res_7_b | .res_7_c | .res_7_d | .res_7_e |
    .res_7_h | .res_7_l | .res_7_a | .set_0_b | .set_0_c | .set_0_d | .set_0_e | .set_0_h |
    .set_0_l | .set_0_a | .set_1_b | .set_1_c | .set_1_d | .set_1_e | .set_1_h | .set_1_l |
    .set_1_a | .set_2_b | .set_2_c | .set_2_d | .set_2_e | .set_2_h | .set_2_l | .set_2_a |
    .set_3_b | .set_3_c | .set_3_d | .set_3_e | .set_3_h | .set_3_l | .set_3_a | .set_4_b |
    .set_4_c | .set_4_d | .set_4_e | .set_4_h | .set_4_l | .set_4_a | .set_5_b | .set_5_c |
    .set_5_d | .set_5_e | .set_5_h | .set_5_l | .set_5_a | .set_6_b | .set_6_c | .set_6_d |
    .set_6_e | .set_6_h | .set_6_l | .set_6_a | .set_7_b | .set_7_c | .set_7_d | .set_7_e |
    .set_7_h | .set_7_l | .set_7_a => 0
  | .ld_mbc_a | .ld_a_mbc | .ld_mde_a | .ld_a_mde | .ld_mhli_a | .ld_a_mhli | .ld_mhld_a |
    .ld_mhl_n8 _ | .ld_a_mhld | .ld_b_mhl | .ld_c_mhl | .ld_d_mhl | .ld_e_mhl | .ld_h_mhl |
    .ld_l_mhl | .ld_mhl_b | .ld_mhl_c | .ld_mhl_d | .ld_mhl_e | .ld_mhl_h | .ld_mhl_l |
    .ld_mhl_a | .ld_a_mhl | .add_a_mhl | .adc_a_mhl | .sub_a_mhl | .sbc_a_mhl | .and_a_mhl |
    .xor_a_mhl | .or_a_mhl | .cp_a_mhl | .ldh_ma8_a _ | .ldh_mc_a | .ld_ma16_a _ |
    .ldh_a_ma8 _ | .ldh_a_mc | .ld_a_ma16 _ | .bit_0_mhl | .bit_1_mhl | .bit_2_mhl |
    .bit_3_mhl | .bit_4_mhl | .bit_5_mhl | .bit_6_mhl | .bit_7_mhl => 1
  | .ld_ma16_sp _ | .inc_mhl | .dec_mhl | .pop_bc | .push_bc | .rst_00 | .ret | .call_a16 _ |
    .rst_08 | .pop_de | .push_de | .rst_10 | .reti | .rst_18 | .pop_hl | .push_hl | .rst_20 |
    .rst_28 | .pop_af | .push_af | .rst_30 | .rst_38 | .rlc_mhl | .rrc_mhl | .rl_mhl |
    .rr_mhl | .sla_mhl | .sra_mhl | .swap_mhl | .srl_mhl | .res_0_mhl | .res_1_mhl |
    .res_2_mhl | .res_3_mhl | .res_4_mhl | .res_5_mhl | .res_6_mhl | .res_7_mhl | .set_0_mhl |
    .set_1_mhl | .set_2_mhl | .set_3_mhl | .set_4_mhl | .set_5_mhl | .set_6_mhl | .set_7_mhl => 2
  | .ret_nz | .call_nz_a16 _ => if condHolds .nz f then 2 else 0
  | .ret_z | .call_z_a16 _ => if condHolds .z f then 2 else 0
  | .ret_nc | .call_nc_a16 _ => if condHolds .nc f then 2 else 0
  | .ret_c | .call_c_a16 _ => if condHolds .c f then 2 else 0

/-- The addresses an instruction stores to, the marker's included. -/
def storedTo (i : Instr) (s : State) : List Word := rowStores (effective i s) s

end Sys2Proof.Machine
end

