-- ==== Sys2Proof/Certificates/Slice0/Obligations.lean ====
section
/-!
DEFINITION. The statements for the provers. In the statements about one instruction `s` is the state
in which its meaning runs: PC past the whole instruction (log entry 7). `s.takeMoves` is that state
after the collaborators' moves that fall before a byte access (log entry 5): `s` itself when none is
scheduled. Each statement about an instruction gives its bytes, its cycles by the opcode table (the
platform's where it changes none: `StepRunsDecoded`) and its next state; what that state does not
name is unchanged. The parameters of R6 are data of `s.platform`, so each statement is about every
value of them (log entry 1); `s.platform.wf` is what D3, R35 and R45 require of them.
-/

open Sys2Proof Sys2Proof.Machine

/-! ### Encoding -/

/-- Decoding the bytes of any instruction gives it back, with every operand, whatever follows (R100,
R106, R107, R112, R113).
The assignment of bytes to instructions is the spec's own decision D28 (log entry 24). -/
def Obligations.DecodeUndoesEncode : Prop :=
  ∀ i : Instr, i.WellFormed → ∀ rest : List Byte, decode (encode i ++ rest) = .ok i rest

/-- Whatever the decoder accepts is the encoding of a well-formed instruction, so each word has one
meaning (R104, R107, R112, R113, R115).
The assignment of bytes to instructions is the spec's own decision D28 (log entry 24). That the
marker alone is no instruction is the model's reading (log entry 8). -/
def Obligations.EncodeUndoesDecode : Prop :=
  ∀ (bytes : List Byte) (i : Instr) (rest : List Byte), decode bytes = .ok i rest →
    i.WellFormed ∧ bytes = encode i ++ rest

/-- Every byte value leads to one outcome: from three bytes on the decoder always gives an instruction
(R107).
The entry of the base table and of the prefixed table is what `BaseTableByFields` and
`PrefixedTableByFields` say. The assignment of bytes to instructions is the spec's own decision
D28 (log entry 24). -/
def Obligations.DecodeIsTotal : Prop :=
  (∀ (b0 b1 b2 : Byte) (rest : List Byte), ∃ i n, 1 ≤ n ∧ n ≤ 3 ∧
      decode (b0 :: b1 :: b2 :: rest) = .ok i ((b0 :: b1 :: b2 :: rest).drop n)) ∧
    ∀ (b1 : Byte) (rest : List Byte), decode (0xCB :: b1 :: rest) = .ok (prefixedEntry b1) rest

/-- The base table, block by block, is the one the fields x, y, z, p, q select (R112).
The content of the table is the spec's own decision D28 (log entry 24). With `DecodeUndoesEncode`
each of these bytes decodes to that row. -/
def Obligations.BaseTableByFields : Prop :=
  (∀ (p : Pair) (n : Word), encode (.ld16 p n) =
      [BitVec.ofNat 8 (0x01 + 16 * p.code), n.extractLsb' 0 8, n.extractLsb' 8 8]) ∧
  (∀ p : Pair, encode (.addHl p) = [BitVec.ofNat 8 (0x09 + 16 * p.code)] ∧
    encode (.inc16 p) = [BitVec.ofNat 8 (0x03 + 16 * p.code)] ∧
    encode (.dec16 p) = [BitVec.ofNat 8 (0x0B + 16 * p.code)]) ∧
  (∀ p : StackPair, encode (.pop p) = [BitVec.ofNat 8 (0xC1 + 16 * p.code)] ∧
    encode (.push p) = [BitVec.ofNat 8 (0xC5 + 16 * p.code)]) ∧
  (∀ r : Reg8, encode (.inc8 r) = [BitVec.ofNat 8 (0x04 + 8 * r.code)] ∧
    encode (.dec8 r) = [BitVec.ofNat 8 (0x05 + 8 * r.code)] ∧
    (∀ n, encode (.ld8Imm r n) = [BitVec.ofNat 8 (0x06 + 8 * r.code), n]) ∧
    encode (.ld8FromHl r) = [BitVec.ofNat 8 (0x46 + 8 * r.code)] ∧
    encode (.ldHlFrom8 r) = [BitVec.ofNat 8 (0x70 + r.code)]) ∧
  encode .inc_mhl = [0x34] ∧ encode .dec_mhl = [0x35] ∧ (∀ n, encode (.ld_mhl_n8 n) = [0x36, n]) ∧
  (∀ rd rs : Reg8, encode (.ld8 rd rs) = [BitVec.ofNat 8 (0x40 + 8 * rd.code + rs.code)]) ∧
  (∀ (op : AluOp), (∀ r, encode (.alu8 op r) = [BitVec.ofNat 8 (0x80 + 8 * op.code + r.code)]) ∧
    encode (.aluHl op) = [BitVec.ofNat 8 (0x86 + 8 * op.code)] ∧
    ∀ n, encode (.aluImm op n) = [BitVec.ofNat 8 (0xC6 + 8 * op.code), n]) ∧
  (∀ cc : Cond, encode (.retCond cc) = [BitVec.ofNat 8 (0xC0 + 8 * cc.code)] ∧
    (∀ e, encode (.jrCond cc e) = [BitVec.ofNat 8 (0x20 + 8 * cc.code), e]) ∧
    (∀ a : Word, encode (.jpCond cc a) =
      [BitVec.ofNat 8 (0xC2 + 8 * cc.code), a.extractLsb' 0 8, a.extractLsb' 8 8]) ∧
    ∀ a : Word, encode (.callCond cc a) =
      [BitVec.ofNat 8 (0xC4 + 8 * cc.code), a.extractLsb' 0 8, a.extractLsb' 8 8]) ∧
  (∀ y : Fin 8, encode (.rst y) = [BitVec.ofNat 8 (0xC7 + 8 * y.val)]) ∧
  (encode .ld_mbc_a = [0x02] ∧ encode .ld_mde_a = [0x12] ∧ encode .ld_mhli_a = [0x22] ∧
    encode .ld_mhld_a = [0x32] ∧ encode .ld_a_mbc = [0x0A] ∧ encode .ld_a_mde = [0x1A] ∧
    encode .ld_a_mhli = [0x2A] ∧ encode .ld_a_mhld = [0x3A]) ∧
  (encode .rlca = [0x07] ∧ encode .rrca = [0x0F] ∧ encode .rla = [0x17] ∧ encode .rra = [0x1F] ∧
    encode .daa = [0x27] ∧ encode .cpl = [0x2F] ∧ encode .scf = [0x37] ∧ encode .ccf = [0x3F]) ∧
  (encode .nop = [0x00] ∧ (∀ a : Word, encode (.ld_ma16_sp a) =
      [0x08, a.extractLsb' 0 8, a.extractLsb' 8 8]) ∧
    (∀ n, encode (.stop_n8 n) = [0x10, n]) ∧ (∀ e, encode (.jr_e8 e) = [0x18, e]) ∧
    encode .halt = [0x76] ∧ encode .di = [0xF3] ∧ encode .ei = [0xFB]) ∧
  ((∀ n, encode (.ldh_ma8_a n) = [0xE0, n]) ∧ (∀ e, encode (.add_sp_e8 e) = [0xE8, e]) ∧
    (∀ n, encode (.ldh_a_ma8 n) = [0xF0, n]) ∧ (∀ e, encode (.ld_hl_sp_e8 e) = [0xF8, e]) ∧
    encode .ldh_mc_a = [0xE2] ∧ encode .ldh_a_mc = [0xF2] ∧
    (∀ a : Word, encode (.ld_ma16_a a) = [0xEA, a.extractLsb' 0 8, a.extractLsb' 8 8]) ∧
    ∀ a : Word, encode (.ld_a_ma16 a) = [0xFA, a.extractLsb' 0 8, a.extractLsb' 8 8]) ∧
  (encode .ret = [0xC9] ∧ encode .reti = [0xD9] ∧ encode .jp_hl = [0xE9] ∧
    encode .ld_sp_hl = [0xF9] ∧
    (∀ a : Word, encode (.jp_a16 a) = [0xC3, a.extractLsb' 0 8, a.extractLsb' 8 8]) ∧
    (∀ a : Word, encode (.call_a16 a) = [0xCD, a.extractLsb' 0 8, a.extractLsb' 8 8]) ∧
    encode .prefix_cb = [0xCB] ∧ ∀ u : Unmapped, encode (.unmapped u) = [u.code])

/-- All 256 second bytes are instructions, selected by the fields x, y, z of the second byte (R113).
The content of the table is the spec's own decision D28 (log entry 24). -/
def Obligations.PrefixedTableByFields : Prop :=
  (∀ (op : RotOp), (∀ r, encode (.rot8 op r) = [0xCB, BitVec.ofNat 8 (8 * op.code + r.code)]) ∧
    encode (.rotHl op) = [0xCB, BitVec.ofNat 8 (8 * op.code + 6)]) ∧
  (∀ b : Fin 8, (∀ r, encode (.bit8 b r) = [0xCB, BitVec.ofNat 8 (0x40 + 8 * b.val + r.code)] ∧
      encode (.res8 b r) = [0xCB, BitVec.ofNat 8 (0x80 + 8 * b.val + r.code)] ∧
      encode (.set8 b r) = [0xCB, BitVec.ofNat 8 (0xC0 + 8 * b.val + r.code)]) ∧
    encode (.bitHl b) = [0xCB, BitVec.ofNat 8 (0x46 + 8 * b.val)] ∧
    encode (.resHl b) = [0xCB, BitVec.ofNat 8 (0x86 + 8 * b.val)] ∧
    encode (.setHl b) = [0xCB, BitVec.ofNat 8 (0xC6 + 8 * b.val)]) ∧
  (∀ op2 : Byte, (prefixedEntry op2).WellFormed ∧ encode (prefixedEntry op2) = [0xCB, op2]) ∧
  decode [0xCB, 0xCB] = .ok .set_1_e []

/-- Exactly eleven base opcode bytes have no table entry (R114, R286).
Which bytes they are is the spec's own decision D13 (log entry 19), and the parameter UNMAPPED may
add to them (log entry 1). The address in the report is R286's. -/
def Obligations.UnmappedBytes : Prop :=
  (∀ (b : Byte) (rest : List Byte),
    (∃ u : Unmapped, decode (b :: rest) = .ok (.unmapped u) rest) ↔
      b ∈ ([0xD3, 0xDB, 0xDD, 0xE3, 0xE4, 0xEB, 0xEC, 0xED, 0xF4, 0xFC, 0xFD] : List Byte)) ∧
  (∀ (u : Unmapped) (s : State), exec (.unmapped u) s =
    .next { s with reports := s.reports ++ [⟨u.code, s.pc - 1⟩] }) ∧
  ∀ s : State, s.mode = .run → s.takeMoves.toDispatch = none →
    let u := s.takeMoves.promote
    let op := u.imm8.1
    op ∈ s.platform.moreUnmapped → op ≠ 0xCB →
      step s = .next (account (s.platform.unmappedCost op)
        { u.imm8.2 with reports := s.reports ++ [⟨op, s.pc⟩] })

/-- Words written out from the encodings decode to the instructions they stand for (R112, R113, R114).
The assignment of bytes to instructions is the spec's own decision D28 (log entry 24). -/
def Obligations.SampleWordsDecode : Prop :=
  decode [0x01, 0x34, 0x12] = .ok (.ld_bc_n16 0x1234) [] ∧
  decode [0x41] = .ok .ld_b_c [] ∧ decode [0xE0, 0x50] = .ok (.ldh_ma8_a 0x50) [] ∧
  decode [0x08, 0x00, 0xC1] = .ok (.ld_ma16_sp 0xC100) [] ∧ decode [0xF5] = .ok .push_af [] ∧
  decode [0x9C] = .ok .sbc_a_h [] ∧ decode [0xFE, 0x3C] = .ok (.cp_a_n8 0x3C) [] ∧
  decode [0x35] = .ok .dec_mhl [] ∧ decode [0x39] = .ok .add_hl_sp [] ∧
  decode [0xE8, 0x02] = .ok (.add_sp_e8 0x02) [] ∧ decode [0x1F] = .ok .rra [] ∧
  decode [0xCB, 0x36] = .ok .swap_mhl [] ∧ decode [0xCB, 0x7F] = .ok .bit_7_a [] ∧
  decode [0xDC, 0x34, 0x12] = .ok (.call_c_a16 0x1234) [] ∧
  decode [0x20, 0xFC] = .ok (.jr_nz_e8 0xFC) [] ∧ decode [0xEF] = .ok .rst_28 [] ∧
  decode [0x76] = .ok .halt [] ∧ decode [0x10, 0x00] = .ok (.stop_n8 0x00) [] ∧
  decode [0xED] = .ok .illegal_ed []

/-! ### Registers, flags and memory -/

/-- Pairs are views of the two cells, and the 3-bit field names the seven cells in order (R21, R108,
R22, R169).
The codes 0 to 5 and 7 are R108's; that writing AF masks the low nibble of F is R22's and R169's. -/
def Obligations.RegisterCellsAndPairs : Prop :=
  (∀ s : State, s.af.toNat = 256 * s.a.toNat + s.f.toNat ∧ s.bc.toNat = 256 * s.b.toNat + s.c.toNat ∧
    s.de.toNat = 256 * s.d.toNat + s.e.toNat ∧ s.hl.toNat = 256 * s.h.toNat + s.l.toNat) ∧
  (∀ (s : State) (v : Word),
    s.setR16 .bc v = { s with b := v.extractLsb' 8 8, c := v.extractLsb' 0 8 } ∧
    s.setR16 .de v = { s with d := v.extractLsb' 8 8, e := v.extractLsb' 0 8 } ∧
    s.setR16 .hl v = { s with h := v.extractLsb' 8 8, l := v.extractLsb' 0 8 } ∧
    s.setStack16 .af v = { s with a := v.extractLsb' 8 8, f := v.extractLsb' 0 8 &&& 0xF0 }) ∧
  (∀ (s : State) (v : Byte),
    s.setR8 .b v = { s with b := v } ∧ s.setR8 .c v = { s with c := v } ∧
    s.setR8 .d v = { s with d := v } ∧ s.setR8 .e v = { s with e := v } ∧
    s.setR8 .h v = { s with h := v } ∧ s.setR8 .l v = { s with l := v } ∧
    s.setR8 .a v = { s with a := v }) ∧
  (∀ s : State, s.r8 .b = s.b ∧ s.r8 .c = s.c ∧ s.r8 .d = s.d ∧ s.r8 .e = s.e ∧ s.r8 .h = s.h ∧
    s.r8 .l = s.l ∧ s.r8 .a = s.a) ∧
  ([Reg8.b, .c, .d, .e, .h, .l, .a].map Reg8.code = [0, 1, 2, 3, 4, 5, 7])

/-- Z, N, H and C are bits 7, 6, 5 and 4 of F, and writing the four keeps bits 3:0 (R26, R22).
That the low nibble is 0 in the states a run reaches is `StepKeepsInvariant` with
`InvariantAtReset` (log entries 2 and 26). -/
def Obligations.FlagBitsOfF : Prop :=
  (∀ f : Byte, flagZ f = f.getLsbD 7 ∧ flagN f = f.getLsbD 6 ∧ flagH f = f.getLsbD 5 ∧
    flagC f = f.getLsbD 4) ∧
  (∀ (x : Flags) (f : Byte), flagZ (packFlags x f) = x.z ∧ flagN (packFlags x f) = x.n ∧
    flagH (packFlags x f) = x.h ∧ flagC (packFlags x f) = x.c ∧
    packFlags x f &&& 0x0F = f &&& 0x0F) ∧
  ∀ s : State, s.Inv → s.f &&& 0x0F = 0

/-- MemRead: a blocked region reads 0xFF, then the overlay, then the cartridge, then the live byte
(R60).
The cartridge byte at 0x0100 to 0x7FFF while the overlay is active is the spec's own resolution C7
(log entry 25). The regions are parameters (D3, log entry 1). -/
def Obligations.ReadContract : Prop :=
  ∀ (s : State) (x : Word),
    (s.platform.oamLo ≤ x → x ≤ s.platform.oamHi → s.oamBlocked = true → s.memRead x = 0xFF) ∧
    (s.platform.vramLo ≤ x → x ≤ s.platform.vramHi → s.vramBlocked = true → s.memRead x = 0xFF) ∧
    (¬ (s.platform.oamLo ≤ x ∧ x ≤ s.platform.oamHi ∧ s.oamBlocked = true) →
      ¬ (s.platform.vramLo ≤ x ∧ x ≤ s.platform.vramHi ∧ s.vramBlocked = true) →
      (x ≤ 0x00FF → s.overlay = true → s.memRead x = s.platform.bootImage.read x.toNat) ∧
      (x ≤ 0x7FFF → ¬ (x ≤ 0x00FF ∧ s.overlay = true) →
        s.memRead x = s.platform.cartImage.read x.toNat) ∧
      (0x7FFF < x → s.memRead x = s.mem.read x.toNat)) ∧
    (s.platform.wf = true → x ≤ 0x7FFF → s.memRead x =
      if x ≤ 0x00FF ∧ s.overlay = true then s.platform.bootImage.read x.toNat
      else s.platform.cartImage.read x.toNat)

/-- MemWrite: ROM and blocked stores are dropped, the latch, SB and plain storage take the byte (R65,
R66, R67).
That the byte stored at ADDR_BOOT_OFF reads back is the spec's own decision D14 (log entry 20),
that the prescalers stay D9 (log entry 16). The addresses are parameters (D3, log entry 1). The
two left out have a statement of their own, `SerialAndDividerWrites`. -/
def Obligations.WriteContract : Prop :=
  ∀ (s : State) (x : Word) (v : Byte),
    (x ≤ 0x7FFF → s.memWrite x v = s) ∧
    (s.platform.oamLo ≤ x → x ≤ s.platform.oamHi → s.oamBlocked = true → s.memWrite x v = s) ∧
    (s.platform.vramLo ≤ x → x ≤ s.platform.vramHi → s.vramBlocked = true → s.memWrite x v = s) ∧
    (0x7FFF < x → ¬ (s.platform.oamLo ≤ x ∧ x ≤ s.platform.oamHi ∧ s.oamBlocked = true) →
      ¬ (s.platform.vramLo ≤ x ∧ x ≤ s.platform.vramHi ∧ s.vramBlocked = true) →
      (x = s.platform.addrBootOff →
        s.memWrite x v = { s with overlay := false, mem := s.mem.write x.toNat v }) ∧
      (x ≠ s.platform.addrBootOff → x ≠ s.platform.addrSc → x ≠ s.platform.addrDiv →
        s.memWrite x v = { s with mem := s.mem.write x.toNat v })) ∧
    (s.mem.wf = true → ∀ y : Nat,
      (s.mem.write x.toNat v).read y = if y = x.toNat then v else s.mem.read y)

/-- A store to SC with bit 7 set echoes SB and requests interrupt 3; a store to DIV zeroes it (R37,
R68, R69, R320).
A write with bit 7 clear is the spec's own decision D14 (log entry 20); the divider's prescaler is
D8 (log entry 4), held for both values of the parameter. The addresses are parameters (D3, log
entry 1). In a blocked region the store is dropped, as `WriteContract` says. -/
def Obligations.SerialAndDividerWrites : Prop :=
  ∀ (s : State) (v : Byte), s.platform.wf = true → s.mem.wf = true →
    let p := s.platform
    (s.blocked p.addrSc = false →
      let t := s.memWrite p.addrSc v
      t = { s with mem := t.mem, serialOut := t.serialOut } ∧
      (v.getLsbD 7 = true → t.serialOut = s.serialOut ++ [s.live p.addrSb] ∧
        t.live p.addrSc = v &&& 0x7F ∧ t.live p.addrIf = s.live p.addrIf ||| 0x08 ∧
        ∀ x : Word, x ≠ p.addrSc → x ≠ p.addrIf → t.live x = s.live x) ∧
      (v.getLsbD 7 = false → t.serialOut = s.serialOut ∧ t.live p.addrSc = v ∧
        ∀ x : Word, x ≠ p.addrSc → t.live x = s.live x)) ∧
    (s.blocked p.addrDiv = false →
      let t := s.memWrite p.addrDiv v
      t.live p.addrDiv = 0x00 ∧ (∀ x : Word, x ≠ p.addrDiv → t.live x = s.live x) ∧
      t = { s with
        mem := t.mem
        divPre := if p.divWriteClearsPrescaler then 0 else s.divPre })

/-- Each collaborator move changes its own flag, LY, or one bit of IF, and nothing else (R322, R323,
R324, R325, R301, R303, R86).
Which bit a source has (VBlank 0, LCD 1, Timer 2, Serial 3, Joypad 4) and who raises it is the
spec's own decision D4 (log entry 1), and that a move and a request store LY and IF directly, not
through the write contract, is D18 (log entry 21). The addresses are parameters (D3, log entry 1). -/
def Obligations.CollaboratorMoves : Prop :=
  ∀ (s : State) (b : Bool) (v : Byte),
    let ly := s.platform.addrLy.toNat
    let flags := s.platform.addrIf.toNat
    s.applyMove (.setVramBlocked b) = { s with vramBlocked := b } ∧
    s.applyMove (.setOamBlocked b) = { s with oamBlocked := b } ∧
    s.applyMove (.storeLy v) = { s with mem := s.mem.write ly v } ∧
    s.applyMove .requestVblank = { s with mem := s.mem.write flags (s.mem.read flags ||| 0x01) } ∧
    s.applyMove .requestLcd = { s with mem := s.mem.write flags (s.mem.read flags ||| 0x02) } ∧
    s.applyMove .requestJoypad = { s with mem := s.mem.write flags (s.mem.read flags ||| 0x10) } ∧
    s.requestInterrupt .timer = { s with mem := s.mem.write flags (s.mem.read flags ||| 0x04) } ∧
    s.requestInterrupt .serial = { s with mem := s.mem.write flags (s.mem.read flags ||| 0x08) }

/-- Moves change only the blocked flags, LY and IF, and clear no IF bit; nothing but a move changes a
blocked flag (R12, R40, R322, R323, R324, R325, R326).
The points at which moves fall are the spec's decision D19, held as the model's schedule (log
entry 5); that they reach LY and IF directly is D18 (log entry 21). -/
def Obligations.MovesAndBlockedFlags : Prop :=
  (∀ s : State,
    let t := s.takeMoves
    t = { s with
      vramBlocked := t.vramBlocked, oamBlocked := t.oamBlocked, mem := t.mem
      moves := s.moves.tail } ∧
    (∀ x : Word, x ≠ s.platform.addrLy → x ≠ s.platform.addrIf → t.live x = s.live x) ∧
    (s.platform.wf = true → s.mem.wf = true →
      s.live s.platform.addrIf &&& t.live s.platform.addrIf = s.live s.platform.addrIf)) ∧
  ∀ s t : State, step s = .next t →
    ((∀ batch ∈ s.moves, ∀ m ∈ batch, ∀ b, m ≠ .setVramBlocked b) →
      t.vramBlocked = s.vramBlocked) ∧
    ((∀ batch ∈ s.moves, ∀ m ∈ batch, ∀ b, m ≠ .setOamBlocked b) → t.oamBlocked = s.oamBlocked)

/-! ### 8-bit loads -/

/-- LD r,r' and LD r,n8 write the destination register and nothing else (R140, R141). -/
def Obligations.LoadRegister : Prop :=
  (∀ (rd rs : Reg8) (s : State),
    encode (.ld8 rd rs) = [BitVec.ofNat 8 (0x40 + 8 * rd.code + rs.code)] ∧
    (∀ f, cost (.ld8 rd rs) f = 1) ∧ exec (.ld8 rd rs) s = .next (s.setR8 rd (s.r8 rs))) ∧
  ∀ (rd : Reg8) (n : Byte) (s : State),
    encode (.ld8Imm rd n) = [BitVec.ofNat 8 (0x06 + 8 * rd.code), n] ∧
    (∀ f, cost (.ld8Imm rd n) f = 2) ∧ exec (.ld8Imm rd n) s = .next (s.setR8 rd n)

/-- Loads from memory read one byte at the address of the old registers and write the destination only
(R142, R145, R146, R149, R151, R153, R155, R156). -/
def Obligations.LoadFromMemory : Prop :=
  ∀ s : State,
    let u := s.takeMoves
    (∀ rd, encode (.ld8FromHl rd) = [BitVec.ofNat 8 (0x46 + 8 * rd.code)] ∧
      (∀ f, cost (.ld8FromHl rd) f = 2) ∧
      exec (.ld8FromHl rd) s = .next (u.setR8 rd (u.memRead s.hl))) ∧
    (encode .ld_a_mbc = [0x0A] ∧ (∀ f, cost .ld_a_mbc f = 2) ∧
      exec .ld_a_mbc s = .next { u with a := u.memRead s.bc }) ∧
    (encode .ld_a_mde = [0x1A] ∧ (∀ f, cost .ld_a_mde f = 2) ∧
      exec .ld_a_mde s = .next { u with a := u.memRead s.de }) ∧
    (∀ x : Word, encode (.ld_a_ma16 x) = [0xFA, x.extractLsb' 0 8, x.extractLsb' 8 8] ∧
      (∀ f, cost (.ld_a_ma16 x) f = 4) ∧
      exec (.ld_a_ma16 x) s = .next { u with a := u.memRead x }) ∧
    (encode .ldh_a_mc = [0xF2] ∧ (∀ f, cost .ldh_a_mc f = 2) ∧
      exec .ldh_a_mc s = .next { u with a := u.memRead (0xFF00 + s.c.zeroExtend 16) }) ∧
    (∀ n : Byte, encode (.ldh_a_ma8 n) = [0xF0, n] ∧ (∀ f, cost (.ldh_a_ma8 n) f = 3) ∧
      exec (.ldh_a_ma8 n) s = .next { u with a := u.memRead (0xFF00 + n.zeroExtend 16) }) ∧
    (encode .ld_a_mhli = [0x2A] ∧ (∀ f, cost .ld_a_mhli f = 2) ∧
      exec .ld_a_mhli s = .next ({ u with a := u.memRead s.hl }.setR16 .hl (s.hl + 1))) ∧
    (encode .ld_a_mhld = [0x3A] ∧ (∀ f, cost .ld_a_mhld f = 2) ∧
      exec .ld_a_mhld s = .next ({ u with a := u.memRead s.hl }.setR16 .hl (s.hl - 1)))

/-- Stores write one byte through the write contract at the address of the old registers (R143, R144,
R147, R148, R150, R152, R154, R157, R158). -/
def Obligations.StoreToMemory : Prop :=
  ∀ s : State,
    let u := s.takeMoves
    (∀ r, encode (.ldHlFrom8 r) = [BitVec.ofNat 8 (0x70 + r.code)] ∧
      (∀ f, cost (.ldHlFrom8 r) f = 2) ∧
      exec (.ldHlFrom8 r) s = .next (u.memWrite s.hl (s.r8 r))) ∧
    (∀ n : Byte, encode (.ld_mhl_n8 n) = [0x36, n] ∧ (∀ f, cost (.ld_mhl_n8 n) f = 3) ∧
      exec (.ld_mhl_n8 n) s = .next (u.memWrite s.hl n)) ∧
    (encode .ld_mbc_a = [0x02] ∧ (∀ f, cost .ld_mbc_a f = 2) ∧
      exec .ld_mbc_a s = .next (u.memWrite s.bc s.a)) ∧
    (encode .ld_mde_a = [0x12] ∧ (∀ f, cost .ld_mde_a f = 2) ∧
      exec .ld_mde_a s = .next (u.memWrite s.de s.a)) ∧
    (∀ x : Word, encode (.ld_ma16_a x) = [0xEA, x.extractLsb' 0 8, x.extractLsb' 8 8] ∧
      (∀ f, cost (.ld_ma16_a x) f = 4) ∧
      exec (.ld_ma16_a x) s = .next (u.memWrite x s.a)) ∧
    (encode .ldh_mc_a = [0xE2] ∧ (∀ f, cost .ldh_mc_a f = 2) ∧
      exec .ldh_mc_a s = .next (u.memWrite (0xFF00 + s.c.zeroExtend 16) s.a)) ∧
    (∀ n : Byte, encode (.ldh_ma8_a n) = [0xE0, n] ∧ (∀ f, cost (.ldh_ma8_a n) f = 3) ∧
      exec (.ldh_ma8_a n) s = .next (u.memWrite (0xFF00 + n.zeroExtend 16) s.a)) ∧
    (encode .ld_mhli_a = [0x22] ∧ (∀ f, cost .ld_mhli_a f = 2) ∧
      exec .ld_mhli_a s = .next ((u.memWrite s.hl s.a).setR16 .hl (s.hl + 1))) ∧
    (encode .ld_mhld_a = [0x32] ∧ (∀ f, cost .ld_mhld_a f = 2) ∧
      exec .ld_mhld_a s = .next ((u.memWrite s.hl s.a).setR16 .hl (s.hl - 1)))

/-! ### 16-bit loads and the stack -/

/-- LD rr,n16; LD SP,HL; LD (a16),SP; LD HL,SP+e8 and ADD SP,e8 with the unsigned byte's flags (R162,
R163, R164, R165, R228). -/
def Obligations.Load16AndSpOffset : Prop :=
  (∀ (p : Pair) (n : Word) (s : State),
    encode (.ld16 p n) =
      [BitVec.ofNat 8 (0x01 + 16 * p.code), n.extractLsb' 0 8, n.extractLsb' 8 8] ∧
    (∀ f, cost (.ld16 p n) f = 3) ∧ exec (.ld16 p n) s = .next (s.setR16 p n)) ∧
  (∀ s : State, encode .ld_sp_hl = [0xF9] ∧ (∀ f, cost .ld_sp_hl f = 2) ∧
    exec .ld_sp_hl s = .next { s with sp := s.hl }) ∧
  (∀ (x : Word) (s : State), encode (.ld_ma16_sp x) = [0x08, x.extractLsb' 0 8, x.extractLsb' 8 8] ∧
    (∀ f, cost (.ld_ma16_sp x) f = 5) ∧
    exec (.ld_ma16_sp x) s = .next
      ((s.takeMoves.memWrite x (s.sp.extractLsb' 0 8)).takeMoves.memWrite (x + 1)
        (s.sp.extractLsb' 8 8))) ∧
  ∀ (e : Byte) (s : State),
    let r : Word := BitVec.ofInt 16 ((s.sp.toNat : Int) + e.toInt)
    let f' := packFlags ⟨false, false, decide (s.sp.toNat % 16 + e.toNat % 16 > 15),
      decide (s.sp.toNat % 256 + e.toNat > 255)⟩ s.f
    (encode (.ld_hl_sp_e8 e) = [0xF8, e] ∧ (∀ f, cost (.ld_hl_sp_e8 e) f = 3) ∧
      exec (.ld_hl_sp_e8 e) s =
        .next { s with h := r.extractLsb' 8 8, l := r.extractLsb' 0 8, f := f' }) ∧
    (encode (.add_sp_e8 e) = [0xE8, e] ∧ (∀ f, cost (.add_sp_e8 e) f = 4) ∧
      exec (.add_sp_e8 e) s = .next { s with sp := r, f := f' })

/-- Push16 and Pop16: two bytes, low byte first, SP down by 2 before the writes and up by 2 after the
reads (R160, R161). -/
def Obligations.StackHelper : Prop :=
  (∀ (s : State) (v : Word), s.push16 v =
    (({ s with sp := s.sp - 2 }.takeMoves.memWrite (s.sp - 2) (v.extractLsb' 0 8)).takeMoves).memWrite
      (s.sp - 1) (v.extractLsb' 8 8)) ∧
  (∀ s : State,
    let u := s.takeMoves
    let w := u.takeMoves
    s.pop16.2 = { w with sp := s.sp + 2 } ∧
    s.pop16.1.toNat = 256 * (w.memRead (s.sp + 1)).toNat + (u.memRead s.sp).toNat) ∧
  ∀ (s : State) (v : Word), s.mem.wf = true → s.moves = [] →
    s.plainByte (s.sp - 2) = true → s.plainByte (s.sp - 1) = true →
    (s.push16 v).pop16.1 = v ∧ (s.push16 v).pop16.2.sp = s.sp

/-- PUSH and POP of every pair; POP AF takes the flags from bits 7:4 and zeroes the low nibble of F
(R166, R167, R168, R169). -/
def Obligations.PushAndPop : Prop :=
  (∀ (p : StackPair) (s : State), encode (.push p) = [BitVec.ofNat 8 (0xC5 + 16 * p.code)] ∧
    (∀ f, cost (.push p) f = 4) ∧
    exec (.push p) s = .next (s.push16 (match p with
      | .bc => s.b ++ s.c
      | .de => s.d ++ s.e
      | .hl => s.h ++ s.l
      | .af => s.a ++ s.f))) ∧
  ∀ s : State,
    let v := s.pop16.1
    let u := s.pop16.2
    (∀ p : StackPair, encode (.pop p) = [BitVec.ofNat 8 (0xC1 + 16 * p.code)] ∧
      ∀ f, cost (.pop p) f = 3) ∧
    exec (.pop .bc) s = .next { u with b := v.extractLsb' 8 8, c := v.extractLsb' 0 8 } ∧
    exec (.pop .de) s = .next { u with d := v.extractLsb' 8 8, e := v.extractLsb' 0 8 } ∧
    exec (.pop .hl) s = .next { u with h := v.extractLsb' 8 8, l := v.extractLsb' 0 8 } ∧
    exec (.pop .af) s = .next { u with
      a := v.extractLsb' 8 8
      f := packFlags ⟨v.getLsbD 7, v.getLsbD 6, v.getLsbD 5, v.getLsbD 4⟩ 0x00 }

/-! ### 8-bit arithmetic and logic -/

/-- ADD, ADC, SUB, SBC, AND, XOR, OR and CP on a register: A, the four flags, and nothing else (R189,
R192, R195, R198, R201, R204, R207, R210). -/
def Obligations.AccumulatorOnRegister : Prop :=
  ∀ (op : AluOp) (r : Reg8) (s : State),
    encode (.alu8 op r) = [BitVec.ofNat 8 (0x80 + 8 * op.code + r.code)] ∧
    (∀ f, cost (.alu8 op r) f = 1) ∧
    exec (.alu8 op r) s =
      .next (s.withAlu (aluRule op s.a.toNat (s.r8 r).toNat (flagC s.f).toNat))

/-- The eight accumulator operations on the byte at HL: one read, A, the four flags, and nothing else
(R190, R193, R196, R199, R202, R205, R208, R211). -/
def Obligations.AccumulatorOnMemory : Prop :=
  ∀ (op : AluOp) (s : State),
    let u := s.takeMoves
    encode (.aluHl op) = [BitVec.ofNat 8 (0x86 + 8 * op.code)] ∧ (∀ f, cost (.aluHl op) f = 2) ∧
    exec (.aluHl op) s =
      .next (u.withAlu (aluRule op s.a.toNat (u.memRead s.hl).toNat (flagC s.f).toNat))

/-- The eight accumulator operations on an immediate byte: A, the four flags, and nothing else (R191,
R194, R197, R200, R203, R206, R209, R212). -/
def Obligations.AccumulatorOnImmediate : Prop :=
  ∀ (op : AluOp) (n : Byte) (s : State),
    encode (.aluImm op n) = [BitVec.ofNat 8 (0xC6 + 8 * op.code), n] ∧
    (∀ f, cost (.aluImm op n) f = 2) ∧
    exec (.aluImm op n) s = .next (s.withAlu (aluRule op s.a.toNat n.toNat (flagC s.f).toNat))

/-- The flag calculator's functions are the formulas of the rules, on integers that do not wrap (R181,
R182, R183, R184, R185, R186, R187, R188). -/
def Obligations.ArithmeticFormulas : Prop :=
  ∀ (op : AluOp) (x y : Byte) (cin : Bool),
    let o := aluCalc op x y cin
    (o.r.toNat, applyFlags (aluPolicy op) o.flags 0x00) =
      ((aluRule op x.toNat y.toNat cin.toNat).1,
        packFlags (aluRule op x.toNat y.toNat cin.toNat).2 0x00)

/-- INC r and DEC r: the register, Z, N and H, with C as it was (R213, R215). -/
def Obligations.IncrementDecrementRegister : Prop :=
  ∀ (r : Reg8) (s : State),
    let x := (s.r8 r).toNat
    (encode (.inc8 r) = [BitVec.ofNat 8 (0x04 + 8 * r.code)] ∧ (∀ f, cost (.inc8 r) f = 1) ∧
      exec (.inc8 r) s = .next { s.setR8 r (BitVec.ofNat 8 (x + 1)) with
        f := packFlags ⟨decide (x = 255), false, decide (x % 16 = 15), flagC s.f⟩ s.f }) ∧
    (encode (.dec8 r) = [BitVec.ofNat 8 (0x05 + 8 * r.code)] ∧ (∀ f, cost (.dec8 r) f = 1) ∧
      exec (.dec8 r) s = .next { s.setR8 r (BitVec.ofNat 8 (x + 255)) with
        f := packFlags ⟨decide (x = 1), true, decide (x % 16 = 0), flagC s.f⟩ s.f })

/-- INC (HL) and DEC (HL): a read, a later write of the result, and flags from the value read (R214,
R216). -/
def Obligations.IncrementDecrementMemory : Prop :=
  ∀ s : State,
    let u := s.takeMoves
    let x := (u.memRead s.hl).toNat
    (encode .inc_mhl = [0x34] ∧ (∀ f, cost .inc_mhl f = 3) ∧
      exec .inc_mhl s = .next { u.takeMoves.memWrite s.hl (BitVec.ofNat 8 (x + 1)) with
        f := packFlags ⟨decide (x = 255), false, decide (x % 16 = 15), flagC s.f⟩ s.f }) ∧
    (encode .dec_mhl = [0x35] ∧ (∀ f, cost .dec_mhl f = 3) ∧
      exec .dec_mhl s = .next { u.takeMoves.memWrite s.hl (BitVec.ofNat 8 (x + 255)) with
        f := packFlags ⟨decide (x = 1), true, decide (x % 16 = 0), flagC s.f⟩ s.f })

/-- DAA: the amounts of both paths, Z from the final A, N kept, H cleared, C set or kept (R217).
The subtract path is the spec's own reading of "mirrored conditions" (D16, log entry 23), so no
rule is claimed whole. -/
def Obligations.DecimalAdjust : Prop :=
  ∀ s : State,
    let o := daaRule s.a.toNat (flagN s.f) (flagH s.f) (flagC s.f)
    encode .daa = [0x27] ∧ (∀ f, cost .daa f = 1) ∧
    exec .daa s = .next { s with
      a := BitVec.ofNat 8 o.1
      f := packFlags ⟨decide (o.1 = 0), flagN s.f, false, o.2⟩ s.f }

/-- ADD then DAA adds and SUB then DAA subtracts two-digit decimal numbers, with the decimal carry in
C (R181, R183, R191, R197, R217).
That the subtract path is right for this is the reason the spec gives for its decision D16 (log
entry 23). -/
def Obligations.DecimalAdjustIsBcd : Prop :=
  ∀ (x y : Nat) (s : State), x < 100 → y < 100 →
    s.a = BitVec.ofNat 8 (16 * (x / 10) + x % 10) →
    let n : Byte := BitVec.ofNat 8 (16 * (y / 10) + y % 10)
    (∃ t u, exec (.add_a_n8 n) s = .next t ∧ exec .daa t = .next u ∧
      u.a = BitVec.ofNat 8 (16 * ((x + y) % 100 / 10) + (x + y) % 10) ∧
      flagC u.f = decide (100 ≤ x + y)) ∧
    ∃ t u, exec (.sub_a_n8 n) s = .next t ∧ exec .daa t = .next u ∧
      u.a = BitVec.ofNat 8 (16 * ((x + 100 - y) % 100 / 10) + (x + 100 - y) % 10) ∧
      flagC u.f = decide (x < y)

/-- CPL, SCF and CCF: A and the flags they write, and nothing else (R218, R219, R220). -/
def Obligations.ComplementAndCarry : Prop :=
  ∀ s : State,
    (encode .cpl = [0x2F] ∧ (∀ f, cost .cpl f = 1) ∧ exec .cpl s = .next { s with
      a := ~~~ s.a, f := packFlags ⟨flagZ s.f, true, true, flagC s.f⟩ s.f }) ∧
    (encode .scf = [0x37] ∧ (∀ f, cost .scf f = 1) ∧ exec .scf s = .next { s with
      f := packFlags ⟨flagZ s.f, false, false, true⟩ s.f }) ∧
    (encode .ccf = [0x3F] ∧ (∀ f, cost .ccf f = 1) ∧ exec .ccf s = .next { s with
      f := packFlags ⟨flagZ s.f, false, false, !flagC s.f⟩ s.f })

/-! ### 16-bit arithmetic -/

/-- ADD HL,rr: HL, N, H from bit 11, C from bit 15, Z kept; INC rr and DEC rr wrap and change no flag
(R225, R226, R227). -/
def Obligations.PairArithmetic : Prop :=
  ∀ (p : Pair) (s : State),
    let x := s.hl.toNat
    let y := (s.r16 p).toNat
    (encode (.addHl p) = [BitVec.ofNat 8 (0x09 + 16 * p.code)] ∧ (∀ f, cost (.addHl p) f = 2) ∧
      exec (.addHl p) s = .next { s with
        h := BitVec.ofNat 8 ((x + y) / 256)
        l := BitVec.ofNat 8 (x + y)
        f := packFlags ⟨flagZ s.f, false, decide (x % 4096 + y % 4096 > 4095),
          decide (x + y > 65535)⟩ s.f }) ∧
    (encode (.inc16 p) = [BitVec.ofNat 8 (0x03 + 16 * p.code)] ∧ (∀ f, cost (.inc16 p) f = 2) ∧
      exec (.inc16 p) s = .next (s.setR16 p (s.r16 p + 1))) ∧
    (encode (.dec16 p) = [BitVec.ofNat 8 (0x0B + 16 * p.code)] ∧ (∀ f, cost (.dec16 p) f = 2) ∧
      exec (.dec16 p) s = .next (s.setR16 p (s.r16 p - 1)))

/-! ### Rotates, shifts and bits -/

/-- The eight transforms, bit by bit, and the bit shifted out (R230). -/
def Obligations.RotateAndShiftBits : Prop :=
  ∀ (op : RotOp) (v : Byte) (cin : Bool),
    (∀ i, i < 8 → (rotResult op v cin).getLsbD i = rotRuleBit op v cin i) ∧
    rotCarry op v = (match op with
      | .rlc | .rl | .sla => v.getLsbD 7
      | .rrc | .rr | .sra | .srl => v.getLsbD 0
      | .swap => false)

/-- RLCA, RRCA, RLA, RRA force Z, N, H to 0; the prefixed rotates and shifts of a register set Z from
the result (R231, R232, R233, R234, R235, R237, R239, R241, R243, R245, R247, R249).
What `rotResult` and `rotCarry` are, bit by bit, is `RotateAndShiftBits`. -/
def Obligations.RotateAccumulatorAndRegister : Prop :=
  (∀ s : State,
    let go := fun (op : RotOp) => ({ s with
      a := rotResult op s.a (flagC s.f)
      f := packFlags ⟨false, false, false, rotCarry op s.a⟩ s.f } : State)
    (encode .rlca = [0x07] ∧ (∀ f, cost .rlca f = 1) ∧ exec .rlca s = .next (go .rlc)) ∧
    (encode .rrca = [0x0F] ∧ (∀ f, cost .rrca f = 1) ∧ exec .rrca s = .next (go .rrc)) ∧
    (encode .rla = [0x17] ∧ (∀ f, cost .rla f = 1) ∧ exec .rla s = .next (go .rl)) ∧
    (encode .rra = [0x1F] ∧ (∀ f, cost .rra f = 1) ∧ exec .rra s = .next (go .rr))) ∧
  ∀ (op : RotOp) (r : Reg8) (s : State),
    let v := rotResult op (s.r8 r) (flagC s.f)
    encode (.rot8 op r) = [0xCB, BitVec.ofNat 8 (8 * op.code + r.code)] ∧
    (∀ f, cost (.rot8 op r) f = 2) ∧
    exec (.rot8 op r) s = .next { s.setR8 r v with
      f := packFlags ⟨v == 0, false, false, rotCarry op (s.r8 r)⟩ s.f }

/-- The prefixed rotates and shifts of the byte at HL: a read, a later write, flags from the computed
result (R236, R238, R240, R242, R244, R246, R248, R250). -/
def Obligations.RotateMemory : Prop :=
  ∀ (op : RotOp) (s : State),
    let u := s.takeMoves
    let v := rotResult op (u.memRead s.hl) (flagC s.f)
    encode (.rotHl op) = [0xCB, BitVec.ofNat 8 (8 * op.code + 6)] ∧
    (∀ f, cost (.rotHl op) f = 4) ∧
    exec (.rotHl op) s = .next { u.takeMoves.memWrite s.hl v with
      f := packFlags ⟨v == 0, false, false, rotCarry op (u.memRead s.hl)⟩ s.f }

/-- BIT, RES and SET on a register: Z from the tested bit, or exactly that bit cleared or set (R251,
R253, R255). -/
def Obligations.BitOfRegister : Prop :=
  ∀ (b : Fin 8) (r : Reg8) (s : State),
    (encode (.bit8 b r) = [0xCB, BitVec.ofNat 8 (0x40 + 8 * b.val + r.code)] ∧
      (∀ f, cost (.bit8 b r) f = 2) ∧ exec (.bit8 b r) s = .next { s with
        f := packFlags ⟨!(s.r8 r).getLsbD b.val, false, true, flagC s.f⟩ s.f }) ∧
    (encode (.res8 b r) = [0xCB, BitVec.ofNat 8 (0x80 + 8 * b.val + r.code)] ∧
      (∀ f, cost (.res8 b r) f = 2) ∧ ∃ v : Byte, exec (.res8 b r) s = .next (s.setR8 r v) ∧
        ∀ i, v.getLsbD i = if i = b.val then false else (s.r8 r).getLsbD i) ∧
    (encode (.set8 b r) = [0xCB, BitVec.ofNat 8 (0xC0 + 8 * b.val + r.code)] ∧
      (∀ f, cost (.set8 b r) f = 2) ∧ ∃ v : Byte, exec (.set8 b r) s = .next (s.setR8 r v) ∧
        ∀ i, v.getLsbD i = if i = b.val then true else (s.r8 r).getLsbD i)

/-- BIT, RES and SET on the byte at HL: a read, and for RES and SET a later write of that byte with
one bit changed (R252, R254, R256). -/
def Obligations.BitOfMemory : Prop :=
  ∀ (b : Fin 8) (s : State),
    let u := s.takeMoves
    let x := u.memRead s.hl
    (encode (.bitHl b) = [0xCB, BitVec.ofNat 8 (0x46 + 8 * b.val)] ∧
      (∀ f, cost (.bitHl b) f = 3) ∧ exec (.bitHl b) s = .next { u with
        f := packFlags ⟨!x.getLsbD b.val, false, true, flagC s.f⟩ s.f }) ∧
    (encode (.resHl b) = [0xCB, BitVec.ofNat 8 (0x86 + 8 * b.val)] ∧
      (∀ f, cost (.resHl b) f = 4) ∧
      ∃ v : Byte, exec (.resHl b) s = .next (u.takeMoves.memWrite s.hl v) ∧
        ∀ i, v.getLsbD i = if i = b.val then false else x.getLsbD i) ∧
    (encode (.setHl b) = [0xCB, BitVec.ofNat 8 (0xC6 + 8 * b.val)] ∧
      (∀ f, cost (.setHl b) f = 4) ∧
      ∃ v : Byte, exec (.setHl b) s = .next (u.takeMoves.memWrite s.hl v) ∧
        ∀ i, v.getLsbD i = if i = b.val then true else x.getLsbD i)

/-! ### Control transfer -/

/-- JP, JP cc, JP HL, JR and JR cc: only PC changes, and only when the condition holds (R110, R260,
R261, R262, R263, R264, R265).
In a meaning PC is past the whole instruction on entry, so `s.pc` is the address of the next one. -/
def Obligations.JumpsAndConditions : Prop :=
  (∀ f, condHolds .nz f = !f.getLsbD 7 ∧ condHolds .z f = f.getLsbD 7 ∧
    condHolds .nc f = !f.getLsbD 4 ∧ condHolds .c f = f.getLsbD 4) ∧
  ([Cond.nz, .z, .nc, .c].map Cond.code = [0, 1, 2, 3]) ∧
  (∀ (x : Word) (s : State), encode (.jp_a16 x) = [0xC3, x.extractLsb' 0 8, x.extractLsb' 8 8] ∧
    (∀ f, cost (.jp_a16 x) f = 4) ∧ exec (.jp_a16 x) s = .next { s with pc := x }) ∧
  (∀ (cc : Cond) (x : Word) (s : State),
    encode (.jpCond cc x) =
      [BitVec.ofNat 8 (0xC2 + 8 * cc.code), x.extractLsb' 0 8, x.extractLsb' 8 8] ∧
    (∀ f, cost (.jpCond cc x) f = if condHolds cc f then 4 else 3) ∧
    exec (.jpCond cc x) s = .next { s with pc := if condHolds cc s.f then x else s.pc }) ∧
  (∀ s : State, encode .jp_hl = [0xE9] ∧ (∀ f, cost .jp_hl f = 1) ∧
    exec .jp_hl s = .next { s with pc := s.hl }) ∧
  (∀ (e : Byte) (s : State), encode (.jr_e8 e) = [0x18, e] ∧ (∀ f, cost (.jr_e8 e) f = 3) ∧
    exec (.jr_e8 e) s = .next { s with pc := s.pc + e.signExtend 16 }) ∧
  ∀ (cc : Cond) (e : Byte) (s : State),
    encode (.jrCond cc e) = [BitVec.ofNat 8 (0x20 + 8 * cc.code), e] ∧
    (∀ f, cost (.jrCond cc e) f = if condHolds cc f then 3 else 2) ∧
    exec (.jrCond cc e) s =
      .next { s with pc := if condHolds cc s.f then s.pc + e.signExtend 16 else s.pc }

/-- CALL, CALL cc and RST push the address of the next instruction and set PC (R266, R267, R271). -/
def Obligations.CallsAndRestarts : Prop :=
  (∀ (x : Word) (s : State),
    encode (.call_a16 x) = [0xCD, x.extractLsb' 0 8, x.extractLsb' 8 8] ∧
    (∀ f, cost (.call_a16 x) f = 6) ∧
    exec (.call_a16 x) s = .next { s.push16 s.pc with pc := x }) ∧
  (∀ (cc : Cond) (x : Word) (s : State),
    encode (.callCond cc x) =
      [BitVec.ofNat 8 (0xC4 + 8 * cc.code), x.extractLsb' 0 8, x.extractLsb' 8 8] ∧
    (∀ f, cost (.callCond cc x) f = if condHolds cc f then 6 else 3) ∧
    (condHolds cc s.f = true → exec (.callCond cc x) s = .next { s.push16 s.pc with pc := x }) ∧
    (condHolds cc s.f = false → exec (.callCond cc x) s = .next s)) ∧
  ∀ (y : Fin 8) (s : State), encode (.rst y) = [BitVec.ofNat 8 (0xC7 + 8 * y.val)] ∧
    (∀ f, cost (.rst y) f = 4) ∧
    exec (.rst y) s = .next { s.push16 s.pc with pc := BitVec.ofNat 16 (8 * y.val) }

/-- RET and RET cc pop PC; RETI pops PC, sets IME at once and clears the pending enable (R268, R269,
R270).
That RETI sets IME at once and clears the pending enable is the spec's own decision D10 (log entry
17). -/
def Obligations.Returns : Prop :=
  (∀ s : State, encode .ret = [0xC9] ∧ (∀ f, cost .ret f = 4) ∧
    exec .ret s = .next { s.pop16.2 with pc := s.pop16.1 }) ∧
  (∀ (cc : Cond) (s : State), encode (.retCond cc) = [BitVec.ofNat 8 (0xC0 + 8 * cc.code)] ∧
    (∀ f, cost (.retCond cc) f = if condHolds cc f then 5 else 2) ∧
    (condHolds cc s.f = true → exec (.retCond cc) s = .next { s.pop16.2 with pc := s.pop16.1 }) ∧
    (condHolds cc s.f = false → exec (.retCond cc) s = .next s)) ∧
  ∀ s : State, encode .reti = [0xD9] ∧ (∀ f, cost .reti f = 4) ∧
    exec .reti s = .next { s.pop16.2 with pc := s.pop16.1, ime := true, imePending := false }

/-- PUSH then POP, CALL or RST then RET, and dispatch then RETI come back, with SP as it was (R160,
R161, R166, R168, R266, R268, R270, R309).
The interrupt part rests on the spec's decision D10 (RETI, log entry 17) and on R307. -/
def Obligations.StackRoundTrips : Prop :=
  ∀ s : State, s.mem.wf = true → s.moves = [] →
    s.plainByte (s.sp - 2) = true → s.plainByte (s.sp - 1) = true →
    (∀ p q : StackPair, ∃ t u, exec (.push p) s = .next t ∧ exec (.pop q) t = .next u ∧
      u.sp = s.sp ∧
      u.stack16 q = (if q = .af then s.stack16 p &&& 0xFFF0 else s.stack16 p) ∧
      (q = p → s.f &&& 0x0F = 0 → u = { s with mem := t.mem })) ∧
    (∀ x : Word, ∃ t, exec (.call_a16 x) s = .next t ∧ exec .ret t = .next { s with mem := t.mem }) ∧
    (∀ y : Fin 8, ∃ t, exec (.rst y) s = .next t ∧ exec .ret t = .next { s with mem := t.mem }) ∧
    (s.sp - 2 ≠ s.platform.addrIf → s.sp - 1 ≠ s.platform.addrIf → ∀ n : Source,
      exec .reti (s.takeInterrupt n) = .next { s with
        mem := (s.takeInterrupt n).mem, ime := true, imePending := false })

/-! ### System -/

/-- NOP, HALT, STOP, DI, EI and the unmapped bytes: what each changes, and nothing else (R280, R281,
R282, R283, R284, R286).
`DI` clearing the pending enable is the spec's own decision D10 (log entry 17), as is that `EI`
leaves IME and sets the pending enable alone, `STOP` D12 (log entry 6), the cycle of an unmapped
byte D13 (log entry 19). -/
def Obligations.SystemInstructions : Prop :=
  ∀ s : State,
    (encode .nop = [0x00] ∧ (∀ f, cost .nop f = 1) ∧ exec .nop s = .next s) ∧
    (encode .halt = [0x76] ∧ (∀ f, cost .halt f = 1) ∧
      exec .halt s = .next { s with mode := .halt }) ∧
    (∀ n, encode (.stop_n8 n) = [0x10, n] ∧ (∀ f, cost (.stop_n8 n) f = 1) ∧
      exec (.stop_n8 n) s = .next { s with mode := .stopped }) ∧
    (encode .di = [0xF3] ∧ (∀ f, cost .di f = 1) ∧
      exec .di s = .next { s with ime := false, imePending := false }) ∧
    (encode .ei = [0xFB] ∧ (∀ f, cost .ei f = 1) ∧
      exec .ei s = .next { s with imePending := true }) ∧
    ∀ u : Unmapped, encode (.unmapped u) = [u.code] ∧ (∀ f, cost (.unmapped u) f = 1) ∧
      exec (.unmapped u) s = .next { s with reports := s.reports ++ [⟨u.code, s.pc - 1⟩] }

/-- The marker 0xCB is not an instruction of its own: it runs the prefixed row its second byte selects
(R285, R113).
That the marker's row is ill-formed, and has as a meaning that of the prefixed row, is the model's
own DESIGN CHOICE (log entry 8); no step reaches it. -/
def Obligations.MarkerRunsPrefixedRow : Prop :=
  ¬ Instr.WellFormed .prefix_cb ∧ (∀ bytes rest, decode bytes ≠ .ok .prefix_cb rest) ∧
  (∀ f, cost .prefix_cb f = 0) ∧
  ∀ s : State,
    let u : State := { s.takeMoves with pc := s.pc + 1 }
    exec .prefix_cb s = exec (prefixedEntry (s.takeMoves.memRead s.pc)) u ∧
    ∃ t, exec .prefix_cb s = .next t

/-! ### The driver step, interrupts, power states and timers -/

/-- A step with nothing to dispatch runs the instruction whose bytes are at PC, then accounts its cost
(R24, R25, R107, R120, R124, R306).
The place of the promotion in the step is the spec's decision D10 (log entry 17), the accounting
at its end D7 (log entry 16). UNMAPPED and CYCLES are parameters (D13, D2, log entry 1); a byte
added to UNMAPPED is in `UnmappedBytes`. -/
def Obligations.StepRunsDecoded : Prop :=
  (∀ (s : State) (i : Instr) (rest : List Byte), s.mode = .run → s.moves = [] →
    s.toDispatch = none →
    s.memRead s.pc ∉ s.platform.moreUnmapped ∨ s.memRead s.pc = 0xCB →
    decode [s.memRead s.pc, s.memRead (s.pc + 1), s.memRead (s.pc + 2)] = .ok i rest →
    let v : State := { s with
      pc := s.pc + BitVec.ofNat 16 (encode i).length
      ime := s.ime || s.imePending, imePending := false }
    ∃ t, exec i v = .next t ∧ step s = .next (account (s.platform.cost i s.f) t)) ∧
  ∀ (p : Platform) (i : Instr) (f : Byte),
    (p.cycleChanges.lookup i.tableNumber = none → p.cost i f = cost i f) ∧
    ∀ n m, p.cycleChanges.lookup i.tableNumber = some (n, m) →
      p.cost i f = match cyclesOf i with
        | .one _ => n
        | .branch cc _ _ => if condHolds cc f then n else m

/-- With moves falling before any byte, a step still runs what the bytes it fetched one by one decode
to (R80, R83, R107, R120, R124, R326).
That moves fall at the boundary and before every fetched byte is the spec's own decision D19, held
as the model's schedule (log entry 5); that the promotion comes after the interrupt test is D10
(log entry 17); that the accounting comes at the end of the step is D7 (log entry 16). UNMAPPED
and CYCLES are parameters (D13, D2, log entry 1); a byte added to UNMAPPED is in `UnmappedBytes`. -/
def Obligations.StepFetchesThroughTheContract : Prop :=
  ∀ (s : State) (i : Instr) (rest : List Byte), s.mode = .run → s.takeMoves.toDispatch = none →
    let u := s.takeMoves.promote
    u.imm8.1 ∉ s.platform.moreUnmapped ∨ u.imm8.1 = 0xCB →
    decode [u.imm8.1, u.imm8.2.imm8.1, u.imm8.2.imm8.2.imm8.1] = .ok i rest →
    let v := rounds (encode i).length (fun t => t.imm8.2) u
    ∃ t, exec i v = .next t ∧ step s = .next (account (s.platform.cost i s.f) t)

/-- A boundary dispatches exactly the lowest-numbered source that is requested and enabled, if IME is
1 (R304, R305, R314).
That bits 7:5 are ignored is the spec's own decision D18 (log entry 21), that the test comes
before the promotion D10 (log entry 17), the numbers D4 and the cost, a parameter, D5 (log entry
1). -/
def Obligations.WhatIsDispatched : Prop :=
  ([Source.vblank, .lcd, .timer, .serial, .joypad].map Source.number = [0, 1, 2, 3, 4]) ∧
  (∀ (s : State) (n : Source),
    let flags := s.live s.platform.addrIf
    let enables := s.live s.platform.addrIe
    (s.toDispatch = some n ↔
      s.ime = true ∧ flags.getLsbD n.number = true ∧ enables.getLsbD n.number = true ∧
      ∀ m : Source, m.number < n.number →
        ¬ (flags.getLsbD m.number = true ∧ enables.getLsbD m.number = true)) ∧
    (s.toDispatch = none ↔ s.ime = false ∨ ∀ m : Source,
      ¬ (flags.getLsbD m.number = true ∧ enables.getLsbD m.number = true))) ∧
  ∀ (s : State) (n : Source), s.mode = .run → s.takeMoves.toDispatch = some n →
    step s = .next (account s.platform.dispatchCycles (s.takeMoves.takeInterrupt n))

/-- Dispatch saves PC on the stack, clears IME, the pending enable and the request, and enters at
VEC(n) (R307, R308).
Choosing n before the push, and clearing its bit after it, is the spec's decision D15 (log entry
22); clearing the pending enable is D10 (log entry 17); the vectors are parameters, D4 (log entry
1). -/
def Obligations.DispatchSequence : Prop :=
  ([Source.vblank, .lcd, .timer, .serial, .joypad].map State.reset.platform.vector =
    [0x0040, 0x0048, 0x0050, 0x0058, 0x0060]) ∧
  ∀ (s : State) (n : Source), s.mem.wf = true →
    let t := s.takeInterrupt n
    let p := { s with ime := false, imePending := false }.push16 s.pc
    let flags := s.platform.addrIf
    t = { p with mem := t.mem, pc := s.platform.vector n } ∧
    t.ime = false ∧ t.imePending = false ∧ t.sp = s.sp - 2 ∧
    (∀ r : Reg8, t.r8 r = s.r8 r) ∧ t.f = s.f ∧ t.mode = s.mode ∧ t.platform = s.platform ∧
    (∀ i, (t.live flags).getLsbD i = ((p.live flags).getLsbD i && decide (i ≠ n.number))) ∧
    (∀ x : Word, x ≠ flags → t.live x = p.live x) ∧
    (s.moves = [] → s.plainByte (s.sp - 2) = true → s.plainByte (s.sp - 1) = true →
      s.sp - 2 ≠ flags → s.sp - 1 ≠ flags →
      t.live (s.sp - 2) = s.pc.extractLsb' 0 8 ∧ t.live (s.sp - 1) = s.pc.extractLsb' 8 8 ∧
      ∀ x : Word, x ≠ s.sp - 2 → x ≠ s.sp - 1 → x ≠ flags → t.live x = s.live x)

/-- After EI the next instruction runs whatever is pending, with IME already 1 (R29, R284, R306).
The order of the test and the promotion is the spec's decision D10 (log entry 17), and so is what
DI and EI do to the pending enable. UNMAPPED and CYCLES are parameters (log entry 1). -/
def Obligations.EnableIsDelayed : Prop :=
  (∀ s : State, ∃ t, exec .ei s = .next t ∧ t.imePending = true ∧ t.ime = s.ime) ∧
  (∀ (s : State) (i : Instr) (rest : List Byte), s.mode = .run → s.moves = [] →
    s.ime = false → s.imePending = true →
    s.memRead s.pc ∉ s.platform.moreUnmapped ∨ s.memRead s.pc = 0xCB →
    decode [s.memRead s.pc, s.memRead (s.pc + 1), s.memRead (s.pc + 2)] = .ok i rest →
    ∃ t, exec i { s with
        pc := s.pc + BitVec.ofNat 16 (encode i).length, ime := true, imePending := false } = .next t ∧
      step s = .next (account (s.platform.cost i s.f) t) ∧
      (i ≠ .di → t.ime = true) ∧ (i ≠ .ei → t.imePending = false)) ∧
  ∀ s : State, s.mode = .run → s.moves = [] → s.ime = false → s.imePending = true →
    s.memRead s.pc ∈ s.platform.moreUnmapped → s.memRead s.pc ≠ 0xCB →
    ∃ t, step s = .next t ∧ t.ime = true ∧ t.imePending = false ∧ t.pc = s.pc + 1

/-- In HALT a step with nothing pending only accounts one cycle; otherwise it wakes and goes on at
once (R330, R331).
The enable mask in the wake condition is the spec's decision D11, as is the idle step's cost, and
that the wake costs nothing is D26 (log entry 18). The empty batch put in front of the schedule
stands for the boundary's moves, which u has made. -/
def Obligations.HaltIdlesAndWakes : Prop :=
  ∀ s : State, s.mode = .halt →
    let u := s.takeMoves
    let flags := u.live u.platform.addrIf
    let enables := u.live u.platform.addrIe
    ((∀ n : Source, ¬ (flags.getLsbD n.number = true ∧ enables.getLsbD n.number = true)) →
      step s = .next (account 1 u)) ∧
    ((∃ n : Source, flags.getLsbD n.number = true ∧ enables.getLsbD n.number = true) →
      step s = step { u with mode := .run, moves := [] :: u.moves })

/-- No instruction faults or refuses, and a step stops exactly in MODE STOPPED (R120, R136, R282,
R300, R332).
That STOPPED is stuck is the spec's decision D12 (log entry 6); that no collaborator's move is
made there is the model's DESIGN CHOICE (log entry 28). -/
def Obligations.OnlyStoppedIsStuck : Prop :=
  (∀ (i : Instr) (s : State), ∃ t, exec i s = .next t) ∧
  (∀ s : State, s.Enabled ↔ ∃ t, step s = .next t) ∧
  ∀ s : State, s.mode = .stopped → step s = .fault .stopped

/-- Accounting adds the cost to CYCLES, advances DIV, then the timer counter, and changes nothing else
(R32, R45, R120, R133, R310, R311, R313).
The accumulating prescaler is the spec's decision D9 (log entry 16), its period, a parameter, D8
(log entry 1), the place of the accounting D7 (log entry 16). -/
def Obligations.AccountingAndDivider : Prop :=
  ∀ (c : Nat) (s : State),
    let t := account c s
    let p := s.platform
    let k := (s.divPre + c) / p.divPeriod
    let divPre' := (s.divPre + c) % p.divPeriod
    t = { s with
      mem := t.mem, divPre := divPre', timaPre := t.timaPre, cycles := s.cycles + c } ∧
    (∀ x : Word, x ≠ p.addrDiv → x ≠ p.addrTima → x ≠ p.addrIf → t.live x = s.live x) ∧
    (s.mem.wf = true →
      t = timaAdvance c { s with
        mem := s.mem.write p.addrDiv.toNat (s.live p.addrDiv + BitVec.ofNat 8 k)
        divPre := divPre', cycles := s.cycles + c } ∧
      (p.wf = true →
        (t.live p.addrDiv).toNat = ((s.live p.addrDiv).toNat + k) % 256 ∧
        (t.live p.addrIf = s.live p.addrIf ∨ t.live p.addrIf = s.live p.addrIf ||| 0x04)))

/-- TIMA counts at the selected rate, reloads from TMA on overflow and requests interrupt 2 exactly
then (R33, R34, R35, R310, R312).
The prescaler, the immediate reload and several overflows in one step are the spec's decision D9
(log entry 16), the fields of TAC, parameters, D27 (log entry 1). -/
def Obligations.TimerCounts : Prop :=
  ∀ (c : Nat) (s : State), s.platform.wf = true → s.mem.wf = true →
    let t := timaAdvance c s
    let p := s.platform
    let tac := s.live p.addrTac
    let period := match (tac.extractLsb' p.tacRateBit 2).toNat with
      | 0 => 256
      | 1 => 4
      | 2 => 16
      | _ => 64
    let k := (s.timaPre + c) / period
    let tima := (s.live p.addrTima).toNat
    let tma := (s.live p.addrTma).toNat
    (tac.getLsbD p.tacEnableBit = false → t = s) ∧
    (tac.getLsbD p.tacEnableBit = true →
      t = { s with mem := t.mem, timaPre := (s.timaPre + c) % period } ∧
      (∀ x : Word, x ≠ p.addrTima → x ≠ p.addrIf → t.live x = s.live x) ∧
      (tima + k ≤ 255 →
        (t.live p.addrTima).toNat = tima + k ∧ t.live p.addrIf = s.live p.addrIf) ∧
      (255 < tima + k →
        (t.live p.addrTima).toNat = tma + (tima + k - 256) % (256 - tma) ∧
        t.live p.addrIf = s.live p.addrIf ||| 0x04)) ∧
    (account c s).live p.addrTima = t.live p.addrTima ∧
    (account c s).live p.addrIf = t.live p.addrIf ∧ (account c s).timaPre = t.timaPre

/-! ### The whole machine -/

/-- The state after reset, and its first step (R6, R39, R350, R351, R352, R354).
All values but OVERLAY are the spec's own decision D6; the parameters are at the defaults R6 gives
from general knowledge (log entry 1); the missing images and the empty schedule are the model's
(log entries 2, 3 and 5). -/
def Obligations.ResetState : Prop :=
  State.reset = {
    a := 0, f := 0, b := 0, c := 0, d := 0, e := 0, h := 0, l := 0, sp := 0, pc := 0,
    ime := false, imePending := false, mode := .run, overlay := true, vramBlocked := false,
    oamBlocked := false, mem := [], divPre := 0, timaPre := 0, cycles := 0, serialOut := [],
    reports := [], moves := [],
    platform := {
      bootImage := [], cartImage := [], divWriteClearsPrescaler := false,
      vramLo := 0x8000, vramHi := 0x9FFF, oamLo := 0xFE00, oamHi := 0xFE9F, addrSb := 0xFF01,
      addrSc := 0xFF02, addrDiv := 0xFF04, addrTima := 0xFF05, addrTma := 0xFF06,
      addrTac := 0xFF07, addrIf := 0xFF0F, addrLy := 0xFF44, addrBootOff := 0xFF50,
      addrIe := 0xFFFF, vecVblank := 0x0040, vecLcd := 0x0048, vecTimer := 0x0050,
      vecSerial := 0x0058, vecJoypad := 0x0060, dispatchCycles := 5, divPeriod := 64,
      tacEnableBit := 2, tacRateBit := 0, moreUnmapped := [], cycleChanges := [] } } ∧
  (∀ x : Word, State.reset.live x = 0x00) ∧
  (∀ m : Memory, { State.reset with platform.bootImage := m }.memRead 0 = m.read 0) ∧
  step State.reset = .next { State.reset with pc := 1, cycles := 1, divPre := 1 }

/-- The state after reset meets the invariant (R22, R41, R45, R350).
It rests on the reset values, all zero but OVERLAY, which are the spec's own decision D6 (log
entry 2), on the missing images (log entry 3) and on the default parameters (log entry 1). -/
def Obligations.InvariantAtReset : Prop :=
  State.reset.Inv

/-- Every step keeps the canonical memory, F[3:0] = 0, the prescaler bounds, SC bit 7 = 0 and ROM
storage untouched (R22, R37, R41, R45, R64, R134, R169).
That SC bit 7 stays 0 when a write with bit 7 clear is stored is the spec's own decision D14 (log
entry 20), the structure of the prescalers D9 (log entry 16), what is asked of a platform D3 (log
entry 1); that storage below 0x8000 is never listed is the model's (log entry 11). -/
def Obligations.StepKeepsInvariant : Prop :=
  ∀ s t : State, s.Inv → step s = .next t → t.Inv

/-- The overlay never comes back, the images never change, the output streams only grow, time moves on
(R39, R42, R46, R47, R65).
That the parameters never change, and that costs are positive on a platform the spec allows, is
log entry 1's; nothing leaves STOPPED (log entry 6). -/
def Obligations.StepOnlyGoesForward : Prop :=
  ∀ s t : State, step s = .next t →
    (s.overlay = false → t.overlay = false) ∧ t.platform = s.platform ∧
    s.serialOut <+: t.serialOut ∧ s.reports <+: t.reports ∧
    s.cycles ≤ t.cycles ∧ (s.platform.wf = true → s.cycles < t.cycles)

/-- An instruction changes no register but its destination operand, the pair it names, and SP where it
says (R20, R23, R108, R109). -/
def Obligations.RegisterFrame : Prop :=
  ∀ (i : Instr) (s t : State), exec i s = .next t →
    (∀ r : Reg8, r ∉ destinations (effective i s) → t.r8 r = s.r8 r) ∧
    (writesSp (effective i s) = false → t.sp = s.sp)

/-- Every flag obeys the instruction's four-slot policy, and no flag whose policy is - changes (R27,
R9).
The policies are the opcode table's (D28, log entry 24). What a computed slot computes is in the
statements of the instructions. -/
def Obligations.FlagFrame : Prop :=
  ∀ (i : Instr) (s t : State), exec i s = .next t →
    let p := flagPolicyOf (effective i s)
    let obeys := fun (slot : Slot) (old new : Bool) => match slot with
      | .keep => new = old
      | .zero => new = false
      | .one => new = true
      | .computed => True
    obeys p.z (flagZ s.f) (flagZ t.f) ∧ obeys p.n (flagN s.f) (flagN t.f) ∧
    obeys p.h (flagH s.f) (flagH t.f) ∧ obeys p.c (flagC s.f) (flagC t.f) ∧
    t.f &&& 0x0F = (if i = .pop_af then 0 else s.f &&& 0x0F)

/-- Every byte of memory is unchanged but the bytes an instruction stores to, IF in a serial transfer,
and moves (R64, R68, R74, R86).
That moves fall before the accesses of an instruction is the spec's own decision D19 (log entry
5); that they, and the request of a serial transfer, store LY and IF directly is D18 (log entry
21). -/
def Obligations.MemoryFrame : Prop :=
  ∀ (i : Instr) (s t : State) (x : Word), exec i s = .next t → x ∉ storedTo i s →
    (x = s.platform.addrIf → s.platform.addrSc ∉ storedTo i s) →
    (s.moves = [] ∨ x ≠ s.platform.addrLy ∧ x ≠ s.platform.addrIf) → t.live x = s.live x

/-- IME, the pending enable, MODE, the latch, the prescalers, CYCLES and the streams change only where
a rule says (R28, R29, R39, R43, R45, R46, R47).
That no store of the CPU changes TIMA_PRE is the spec's own decision D9 (log entry 16), that a
store to DIV may change DIV_PRE D8 (log entry 4), and that EI leaves IME, RETI sets it at once,
and EI, DI and RETI alone touch IME_PENDING D10 (log entry 17). STOP's mode is D12 (log entry 6). -/
def Obligations.ControlFrame : Prop :=
  ∀ (i : Instr) (s t : State), exec i s = .next t →
    (i ≠ .di → i ≠ .reti → t.ime = s.ime) ∧
    (i ≠ .di → i ≠ .reti → i ≠ .ei → t.imePending = s.imePending) ∧
    (i ≠ .halt → (∀ n, i ≠ .stop_n8 n) → t.mode = s.mode) ∧
    ((∀ u : Unmapped, i ≠ .unmapped u) → t.reports = s.reports) ∧
    (s.platform.addrBootOff ∉ storedTo i s → t.overlay = s.overlay) ∧
    (s.platform.addrSc ∉ storedTo i s → t.serialOut = s.serialOut) ∧
    (s.platform.addrDiv ∉ storedTo i s → t.divPre = s.divPre) ∧
    t.timaPre = s.timaPre ∧ t.cycles = s.cycles ∧ t.platform = s.platform

/-- How many interleaving points an instruction has: its data accesses, at most five accesses in all
(R74, R123, R129, R133, R136).
That a batch of moves falls before each data access is the spec's own decision D19, and the
batches are the model's own field `moves`, a DESIGN CHOICE (log entry 5). R133's sentence that the
declared count is at least the number of accesses is not true of `STOP` by the spec's own numbers
(R282, R116, R370); the declared count is followed (log entry 15). The counts are the opcode
table's (D2, log entry 24). -/
def Obligations.DataAccesses : Prop :=
  ∀ (i : Instr) (s t : State), i.WellFormed → exec i s = .next t →
    t.moves = s.moves.drop (dataAccesses i s.f) ∧
    (encode i).length + dataAccesses i s.f ≤ 5 ∧
    ((∀ n, i ≠ .stop_n8 n) → (encode i).length + dataAccesses i s.f ≤ cost i s.f)

/-- No instruction's result depends on CYCLES or on the timer prescaler (R45, R46, R371). -/
def Obligations.TimeIsNotRead : Prop :=
  ∀ (i : Instr) (s t : State) (c d : Nat), exec i s = .next t →
    exec i { s with cycles := c, timaPre := d } = .next { t with cycles := c, timaPre := d }
end

