-- ==== Sys2Proof/Laws/Memory.lean ====
section
/-!
SUPPORT. The laws of the sparse store: a read after a write, the canonical form, and that two stores
in canonical form with the same bytes are the same list.
-/

namespace Sys2Proof.Machine

open Sys2Proof

/-- A byte of a store that lists only addresses above x reads as unlisted. -/
theorem Memory.read_of_lt : ∀ (m : Memory) {x : Nat}, (∀ c ∈ m, x < c.1) →
    Memory.read m x = unlistedByte
  | [], _, _ => rfl
  | (k, v) :: rest, x, h => by
    have hk : x < k := h (k, v) (by simp)
    rw [Memory.read, if_neg (by omega)]
    exact Memory.read_of_lt rest fun c hc => h c (by simp [hc])

theorem Memory.wf_cons {k : Nat} {v : Byte} {rest : Memory} :
    Memory.wf ((k, v) :: rest) = true ↔
      k < memSize ∧ v ≠ unlistedByte ∧ (∀ c ∈ rest, k < c.1) ∧ Memory.wf rest = true := by
  simp [Memory.wf, and_assoc]

/-- An unlisted address of a store in canonical form. -/
theorem Memory.read_head_lt {k : Nat} {v : Byte} {rest : Memory}
    (h : Memory.wf ((k, v) :: rest) = true) {x : Nat} (hx : x ≤ k) :
    Memory.read rest x = unlistedByte :=
  Memory.read_of_lt rest fun c hc => lt_of_le_of_lt hx ((Memory.wf_cons.1 h).2.2.1 c hc)

/-- The byte just written to a store in canonical form is read back. -/
theorem Memory.read_write_same_of_wf : ∀ (m : Memory) (x : Nat) (w : Byte),
    Memory.wf m = true → Memory.read (Memory.write m x w) x = w
  | [], x, w, _ => by
    unfold Memory.write
    split_ifs with hw
    · simp [Memory.read, hw]
    · simp [Memory.read]
  | (k, v) :: rest, x, w, hm => by
    unfold Memory.write
    split_ifs with h1 h2 h3 h4
    · rw [Memory.read, if_neg (by omega), h2]
      exact Memory.read_head_lt hm (by omega)
    · simp [Memory.read]
    · rw [h4]; exact Memory.read_head_lt hm (by omega)
    · simp [Memory.read]
    · rw [Memory.read, if_neg h3]
      exact Memory.read_write_same_of_wf rest x w (Memory.wf_cons.1 hm).2.2.2

/-- A write leaves every other byte alone. -/
theorem Memory.read_write_other : ∀ (m : Memory) {x y : Nat} (w : Byte), y ≠ x →
    Memory.read (Memory.write m x w) y = Memory.read m y
  | [], x, y, w, h => by
    unfold Memory.write
    split_ifs
    · rfl
    · simp [Memory.read, h]
  | (k, v) :: rest, x, y, w, h => by
    unfold Memory.write
    split_ifs with h1 h2 h3 h4
    · rfl
    · simp [Memory.read, h]
    · rw [Memory.read, if_neg (by omega)]
    · simp [Memory.read, h, show y ≠ k by omega]
    · simp only [Memory.read, Memory.read_write_other rest w h]

/-- The addresses of a store after a write. -/
theorem Memory.mem_write : ∀ {m : Memory} {x : Nat} {w : Byte} {c : Host.Cell},
    c ∈ Memory.write m x w → c ∈ m ∨ c.1 = x
  | [], x, w, c, h => by
    unfold Memory.write at h
    split_ifs at h <;> simp_all
  | (k, v) :: rest, x, w, c, h => by
    unfold Memory.write at h
    split_ifs at h with h1 h2 h3 h4
    · exact .inl h
    · rcases List.mem_cons.1 h with rfl | h
      · exact .inr rfl
      · exact .inl h
    · exact .inl (List.mem_cons_of_mem _ h)
    · rcases List.mem_cons.1 h with rfl | h
      · exact .inr rfl
      · exact .inl (List.mem_cons_of_mem _ h)
    · rcases List.mem_cons.1 h with rfl | h
      · exact .inl (by simp)
      · exact (Memory.mem_write h).imp_left (List.mem_cons_of_mem _)

/-- A write keeps the canonical form. -/
theorem Memory.wf_write : ∀ {m : Memory} {x : Nat} {w : Byte}, Memory.wf m = true → x < memSize →
    Memory.wf (Memory.write m x w) = true
  | [], x, w, _, hx => by
    unfold Memory.write
    split_ifs with hw
    · rfl
    · simp [Memory.wf, hx, hw]
  | (k, v) :: rest, x, w, hm, hx => by
    obtain ⟨hk, hv, hr, hw⟩ := Memory.wf_cons.1 hm
    unfold Memory.write
    split_ifs with h1 h2 h3 h4
    · exact hm
    · refine Memory.wf_cons.2 ⟨hx, h2, fun c hc => ?_, hm⟩
      rcases List.mem_cons.1 hc with rfl | hc
      · exact h1
      · exact h1.trans (hr c hc)
    · exact hw
    · subst h3; exact Memory.wf_cons.2 ⟨hx, h4, hr, hw⟩
    · refine Memory.wf_cons.2 ⟨hk, hv, fun c hc => ?_, Memory.wf_write hw hx⟩
      rcases Memory.mem_write hc with hc | hc
      · exact hr c hc
      · omega

/-- Equal memories are equal data: two stores in canonical form with the same bytes are one list. -/
theorem Memory.ext_of_wf : ∀ {m n : Memory}, Memory.wf m = true → Memory.wf n = true →
    (∀ x, Memory.read m x = Memory.read n x) → m = n
  | [], [], _, _, _ => rfl
  | [], (k, v) :: rest, _, hn, h => by
    have := h k
    simp [Memory.read] at this
    exact absurd this.symm (Memory.wf_cons.1 hn).2.1
  | (k, v) :: rest, [], hm, _, h => by
    have := h k
    simp [Memory.read] at this
    exact absurd this (Memory.wf_cons.1 hm).2.1
  | (k, v) :: rest, (k', v') :: rest', hm, hn, h => by
    obtain ⟨_, hv, _, hw⟩ := Memory.wf_cons.1 hm
    obtain ⟨_, hv', _, hw'⟩ := Memory.wf_cons.1 hn
    have hk : k = k' := by
      rcases Nat.lt_trichotomy k k' with hlt | heq | hlt
      · have := h k
        rw [Memory.read, if_pos rfl, Memory.read, if_neg (by omega),
          Memory.read_head_lt hn hlt.le] at this
        exact absurd this hv
      · exact heq
      · have := h k'
        rw [Memory.read, if_neg (by omega), Memory.read_head_lt hm hlt.le, Memory.read,
          if_pos rfl] at this
        exact absurd this.symm hv'
    subst hk
    have hvv : v = v' := by simpa [Memory.read] using h k
    subst hvv
    congr 1
    refine Memory.ext_of_wf hw hw' fun x => ?_
    by_cases hx : x = k
    · subst hx
      rw [Memory.read_head_lt hm le_rfl, Memory.read_head_lt hn le_rfl]
    · simpa [Memory.read, hx] using h x

end Sys2Proof.Machine
end

