-- ==== Sys2Proof/Laws/State.lean ====
section
/-!
SUPPORT. One lemma for each field and each named update of the state, so that no proof unfolds an
update: what `store`, `setR8`, `setHl`, `setR16`, `setStack16` and `withFlags` leave unchanged, and
what the accessors read after them.
-/

namespace Sys2Proof.Machine

open Sys2Proof

/-! ### `store`: a direct store to a live byte -/

@[simp] theorem State.store_a (s : State) (x : Word) (v : Byte) : (s.store x v).a = s.a := rfl
@[simp] theorem State.store_f (s : State) (x : Word) (v : Byte) : (s.store x v).f = s.f := rfl
@[simp] theorem State.store_b (s : State) (x : Word) (v : Byte) : (s.store x v).b = s.b := rfl
@[simp] theorem State.store_c (s : State) (x : Word) (v : Byte) : (s.store x v).c = s.c := rfl
@[simp] theorem State.store_d (s : State) (x : Word) (v : Byte) : (s.store x v).d = s.d := rfl
@[simp] theorem State.store_e (s : State) (x : Word) (v : Byte) : (s.store x v).e = s.e := rfl
@[simp] theorem State.store_h (s : State) (x : Word) (v : Byte) : (s.store x v).h = s.h := rfl
@[simp] theorem State.store_l (s : State) (x : Word) (v : Byte) : (s.store x v).l = s.l := rfl
@[simp] theorem State.store_sp (s : State) (x : Word) (v : Byte) : (s.store x v).sp = s.sp := rfl
@[simp] theorem State.store_pc (s : State) (x : Word) (v : Byte) : (s.store x v).pc = s.pc := rfl
@[simp] theorem State.store_ime (s : State) (x : Word) (v : Byte) : (s.store x v).ime = s.ime := rfl
@[simp] theorem State.store_imePending (s : State) (x : Word) (v : Byte) : (s.store x v).imePending = s.imePending := rfl
@[simp] theorem State.store_mode (s : State) (x : Word) (v : Byte) : (s.store x v).mode = s.mode := rfl
@[simp] theorem State.store_overlay (s : State) (x : Word) (v : Byte) : (s.store x v).overlay = s.overlay := rfl
@[simp] theorem State.store_vramBlocked (s : State) (x : Word) (v : Byte) : (s.store x v).vramBlocked = s.vramBlocked := rfl
@[simp] theorem State.store_oamBlocked (s : State) (x : Word) (v : Byte) : (s.store x v).oamBlocked = s.oamBlocked := rfl
@[simp] theorem State.store_divPre (s : State) (x : Word) (v : Byte) : (s.store x v).divPre = s.divPre := rfl
@[simp] theorem State.store_timaPre (s : State) (x : Word) (v : Byte) : (s.store x v).timaPre = s.timaPre := rfl
@[simp] theorem State.store_cycles (s : State) (x : Word) (v : Byte) : (s.store x v).cycles = s.cycles := rfl
@[simp] theorem State.store_serialOut (s : State) (x : Word) (v : Byte) : (s.store x v).serialOut = s.serialOut := rfl
@[simp] theorem State.store_reports (s : State) (x : Word) (v : Byte) : (s.store x v).reports = s.reports := rfl
@[simp] theorem State.store_platform (s : State) (x : Word) (v : Byte) : (s.store x v).platform = s.platform := rfl
@[simp] theorem State.store_moves (s : State) (x : Word) (v : Byte) : (s.store x v).moves = s.moves := rfl
@[simp] theorem State.store_mem (s : State) (x : Word) (v : Byte) : (s.store x v).mem = s.mem.write x.toNat v := rfl

/-! ### `setR8` -/

@[simp] theorem State.setR8_f (s : State) (r : Reg8) (v : Byte) : (s.setR8 r v).f = s.f := by cases r <;> rfl
@[simp] theorem State.setR8_sp (s : State) (r : Reg8) (v : Byte) : (s.setR8 r v).sp = s.sp := by cases r <;> rfl
@[simp] theorem State.setR8_pc (s : State) (r : Reg8) (v : Byte) : (s.setR8 r v).pc = s.pc := by cases r <;> rfl
@[simp] theorem State.setR8_ime (s : State) (r : Reg8) (v : Byte) : (s.setR8 r v).ime = s.ime := by cases r <;> rfl
@[simp] theorem State.setR8_imePending (s : State) (r : Reg8) (v : Byte) : (s.setR8 r v).imePending = s.imePending := by cases r <;> rfl
@[simp] theorem State.setR8_mode (s : State) (r : Reg8) (v : Byte) : (s.setR8 r v).mode = s.mode := by cases r <;> rfl
@[simp] theorem State.setR8_overlay (s : State) (r : Reg8) (v : Byte) : (s.setR8 r v).overlay = s.overlay := by cases r <;> rfl
@[simp] theorem State.setR8_vramBlocked (s : State) (r : Reg8) (v : Byte) : (s.setR8 r v).vramBlocked = s.vramBlocked := by cases r <;> rfl
@[simp] theorem State.setR8_oamBlocked (s : State) (r : Reg8) (v : Byte) : (s.setR8 r v).oamBlocked = s.oamBlocked := by cases r <;> rfl
@[simp] theorem State.setR8_mem (s : State) (r : Reg8) (v : Byte) : (s.setR8 r v).mem = s.mem := by cases r <;> rfl
@[simp] theorem State.setR8_divPre (s : State) (r : Reg8) (v : Byte) : (s.setR8 r v).divPre = s.divPre := by cases r <;> rfl
@[simp] theorem State.setR8_timaPre (s : State) (r : Reg8) (v : Byte) : (s.setR8 r v).timaPre = s.timaPre := by cases r <;> rfl
@[simp] theorem State.setR8_cycles (s : State) (r : Reg8) (v : Byte) : (s.setR8 r v).cycles = s.cycles := by cases r <;> rfl
@[simp] theorem State.setR8_serialOut (s : State) (r : Reg8) (v : Byte) : (s.setR8 r v).serialOut = s.serialOut := by cases r <;> rfl
@[simp] theorem State.setR8_reports (s : State) (r : Reg8) (v : Byte) : (s.setR8 r v).reports = s.reports := by cases r <;> rfl
@[simp] theorem State.setR8_platform (s : State) (r : Reg8) (v : Byte) : (s.setR8 r v).platform = s.platform := by cases r <;> rfl
@[simp] theorem State.setR8_moves (s : State) (r : Reg8) (v : Byte) : (s.setR8 r v).moves = s.moves := by cases r <;> rfl
@[simp] theorem State.setR8_r8 (s : State) (r q : Reg8) (v : Byte) :
    (s.setR8 r v).r8 q = if q = r then v else s.r8 q := by
  cases r <;> cases q <;> rfl
@[simp] theorem State.setR8_live (s : State) (r : Reg8) (v : Byte) (x : Word) :
    (s.setR8 r v).live x = s.live x := by cases r <;> rfl

/-! ### `setHl` -/

@[simp] theorem State.setHl_a (s : State) (v : Word) : (s.setHl v).a = s.a := rfl
@[simp] theorem State.setHl_f (s : State) (v : Word) : (s.setHl v).f = s.f := rfl
@[simp] theorem State.setHl_b (s : State) (v : Word) : (s.setHl v).b = s.b := rfl
@[simp] theorem State.setHl_c (s : State) (v : Word) : (s.setHl v).c = s.c := rfl
@[simp] theorem State.setHl_d (s : State) (v : Word) : (s.setHl v).d = s.d := rfl
@[simp] theorem State.setHl_e (s : State) (v : Word) : (s.setHl v).e = s.e := rfl
@[simp] theorem State.setHl_sp (s : State) (v : Word) : (s.setHl v).sp = s.sp := rfl
@[simp] theorem State.setHl_pc (s : State) (v : Word) : (s.setHl v).pc = s.pc := rfl
@[simp] theorem State.setHl_ime (s : State) (v : Word) : (s.setHl v).ime = s.ime := rfl
@[simp] theorem State.setHl_imePending (s : State) (v : Word) : (s.setHl v).imePending = s.imePending := rfl
@[simp] theorem State.setHl_mode (s : State) (v : Word) : (s.setHl v).mode = s.mode := rfl
@[simp] theorem State.setHl_overlay (s : State) (v : Word) : (s.setHl v).overlay = s.overlay := rfl
@[simp] theorem State.setHl_vramBlocked (s : State) (v : Word) : (s.setHl v).vramBlocked = s.vramBlocked := rfl
@[simp] theorem State.setHl_oamBlocked (s : State) (v : Word) : (s.setHl v).oamBlocked = s.oamBlocked := rfl
@[simp] theorem State.setHl_mem (s : State) (v : Word) : (s.setHl v).mem = s.mem := rfl
@[simp] theorem State.setHl_divPre (s : State) (v : Word) : (s.setHl v).divPre = s.divPre := rfl
@[simp] theorem State.setHl_timaPre (s : State) (v : Word) : (s.setHl v).timaPre = s.timaPre := rfl
@[simp] theorem State.setHl_cycles (s : State) (v : Word) : (s.setHl v).cycles = s.cycles := rfl
@[simp] theorem State.setHl_serialOut (s : State) (v : Word) : (s.setHl v).serialOut = s.serialOut := rfl
@[simp] theorem State.setHl_reports (s : State) (v : Word) : (s.setHl v).reports = s.reports := rfl
@[simp] theorem State.setHl_platform (s : State) (v : Word) : (s.setHl v).platform = s.platform := rfl
@[simp] theorem State.setHl_moves (s : State) (v : Word) : (s.setHl v).moves = s.moves := rfl
@[simp] theorem State.setHl_h (s : State) (v : Word) : (s.setHl v).h = hiByte v := rfl
@[simp] theorem State.setHl_l (s : State) (v : Word) : (s.setHl v).l = loByte v := rfl
@[simp] theorem State.setHl_live (s : State) (v : Word) (x : Word) :
    (s.setHl v).live x = s.live x := rfl

/-! ### `setR16` -/

@[simp] theorem State.setR16_a (s : State) (p : Pair) (v : Word) : (s.setR16 p v).a = s.a := by cases p <;> rfl
@[simp] theorem State.setR16_f (s : State) (p : Pair) (v : Word) : (s.setR16 p v).f = s.f := by cases p <;> rfl
@[simp] theorem State.setR16_pc (s : State) (p : Pair) (v : Word) : (s.setR16 p v).pc = s.pc := by cases p <;> rfl
@[simp] theorem State.setR16_ime (s : State) (p : Pair) (v : Word) : (s.setR16 p v).ime = s.ime := by cases p <;> rfl
@[simp] theorem State.setR16_imePending (s : State) (p : Pair) (v : Word) : (s.setR16 p v).imePending = s.imePending := by cases p <;> rfl
@[simp] theorem State.setR16_mode (s : State) (p : Pair) (v : Word) : (s.setR16 p v).mode = s.mode := by cases p <;> rfl
@[simp] theorem State.setR16_overlay (s : State) (p : Pair) (v : Word) : (s.setR16 p v).overlay = s.overlay := by cases p <;> rfl
@[simp] theorem State.setR16_vramBlocked (s : State) (p : Pair) (v : Word) : (s.setR16 p v).vramBlocked = s.vramBlocked := by cases p <;> rfl
@[simp] theorem State.setR16_oamBlocked (s : State) (p : Pair) (v : Word) : (s.setR16 p v).oamBlocked = s.oamBlocked := by cases p <;> rfl
@[simp] theorem State.setR16_mem (s : State) (p : Pair) (v : Word) : (s.setR16 p v).mem = s.mem := by cases p <;> rfl
@[simp] theorem State.setR16_divPre (s : State) (p : Pair) (v : Word) : (s.setR16 p v).divPre = s.divPre := by cases p <;> rfl
@[simp] theorem State.setR16_timaPre (s : State) (p : Pair) (v : Word) : (s.setR16 p v).timaPre = s.timaPre := by cases p <;> rfl
@[simp] theorem State.setR16_cycles (s : State) (p : Pair) (v : Word) : (s.setR16 p v).cycles = s.cycles := by cases p <;> rfl
@[simp] theorem State.setR16_serialOut (s : State) (p : Pair) (v : Word) : (s.setR16 p v).serialOut = s.serialOut := by cases p <;> rfl
@[simp] theorem State.setR16_reports (s : State) (p : Pair) (v : Word) : (s.setR16 p v).reports = s.reports := by cases p <;> rfl
@[simp] theorem State.setR16_platform (s : State) (p : Pair) (v : Word) : (s.setR16 p v).platform = s.platform := by cases p <;> rfl
@[simp] theorem State.setR16_moves (s : State) (p : Pair) (v : Word) : (s.setR16 p v).moves = s.moves := by cases p <;> rfl
@[simp] theorem State.setR16_live (s : State) (p : Pair) (v : Word) (x : Word) :
    (s.setR16 p v).live x = s.live x := by cases p <;> rfl

/-! ### `setStack16` -/

@[simp] theorem State.setStack16_sp (s : State) (p : StackPair) (v : Word) : (s.setStack16 p v).sp = s.sp := by cases p <;> rfl
@[simp] theorem State.setStack16_pc (s : State) (p : StackPair) (v : Word) : (s.setStack16 p v).pc = s.pc := by cases p <;> rfl
@[simp] theorem State.setStack16_ime (s : State) (p : StackPair) (v : Word) : (s.setStack16 p v).ime = s.ime := by cases p <;> rfl
@[simp] theorem State.setStack16_imePending (s : State) (p : StackPair) (v : Word) : (s.setStack16 p v).imePending = s.imePending := by cases p <;> rfl
@[simp] theorem State.setStack16_mode (s : State) (p : StackPair) (v : Word) : (s.setStack16 p v).mode = s.mode := by cases p <;> rfl
@[simp] theorem State.setStack16_overlay (s : State) (p : StackPair) (v : Word) : (s.setStack16 p v).overlay = s.overlay := by cases p <;> rfl
@[simp] theorem State.setStack16_vramBlocked (s : State) (p : StackPair) (v : Word) : (s.setStack16 p v).vramBlocked = s.vramBlocked := by cases p <;> rfl
@[simp] theorem State.setStack16_oamBlocked (s : State) (p : StackPair) (v : Word) : (s.setStack16 p v).oamBlocked = s.oamBlocked := by cases p <;> rfl
@[simp] theorem State.setStack16_mem (s : State) (p : StackPair) (v : Word) : (s.setStack16 p v).mem = s.mem := by cases p <;> rfl
@[simp] theorem State.setStack16_divPre (s : State) (p : StackPair) (v : Word) : (s.setStack16 p v).divPre = s.divPre := by cases p <;> rfl
@[simp] theorem State.setStack16_timaPre (s : State) (p : StackPair) (v : Word) : (s.setStack16 p v).timaPre = s.timaPre := by cases p <;> rfl
@[simp] theorem State.setStack16_cycles (s : State) (p : StackPair) (v : Word) : (s.setStack16 p v).cycles = s.cycles := by cases p <;> rfl
@[simp] theorem State.setStack16_serialOut (s : State) (p : StackPair) (v : Word) : (s.setStack16 p v).serialOut = s.serialOut := by cases p <;> rfl
@[simp] theorem State.setStack16_reports (s : State) (p : StackPair) (v : Word) : (s.setStack16 p v).reports = s.reports := by cases p <;> rfl
@[simp] theorem State.setStack16_platform (s : State) (p : StackPair) (v : Word) : (s.setStack16 p v).platform = s.platform := by cases p <;> rfl
@[simp] theorem State.setStack16_moves (s : State) (p : StackPair) (v : Word) : (s.setStack16 p v).moves = s.moves := by cases p <;> rfl
@[simp] theorem State.setStack16_live (s : State) (p : StackPair) (v : Word) (x : Word) :
    (s.setStack16 p v).live x = s.live x := by cases p <;> rfl

/-! ### `withFlags` -/

@[simp] theorem State.withFlags_a (s : State) (p : Policy) (x : Flags) : (s.withFlags p x).a = s.a := rfl
@[simp] theorem State.withFlags_b (s : State) (p : Policy) (x : Flags) : (s.withFlags p x).b = s.b := rfl
@[simp] theorem State.withFlags_c (s : State) (p : Policy) (x : Flags) : (s.withFlags p x).c = s.c := rfl
@[simp] theorem State.withFlags_d (s : State) (p : Policy) (x : Flags) : (s.withFlags p x).d = s.d := rfl
@[simp] theorem State.withFlags_e (s : State) (p : Policy) (x : Flags) : (s.withFlags p x).e = s.e := rfl
@[simp] theorem State.withFlags_h (s : State) (p : Policy) (x : Flags) : (s.withFlags p x).h = s.h := rfl
@[simp] theorem State.withFlags_l (s : State) (p : Policy) (x : Flags) : (s.withFlags p x).l = s.l := rfl
@[simp] theorem State.withFlags_sp (s : State) (p : Policy) (x : Flags) : (s.withFlags p x).sp = s.sp := rfl
@[simp] theorem State.withFlags_pc (s : State) (p : Policy) (x : Flags) : (s.withFlags p x).pc = s.pc := rfl
@[simp] theorem State.withFlags_ime (s : State) (p : Policy) (x : Flags) : (s.withFlags p x).ime = s.ime := rfl
@[simp] theorem State.withFlags_imePending (s : State) (p : Policy) (x : Flags) : (s.withFlags p x).imePending = s.imePending := rfl
@[simp] theorem State.withFlags_mode (s : State) (p : Policy) (x : Flags) : (s.withFlags p x).mode = s.mode := rfl
@[simp] theorem State.withFlags_overlay (s : State) (p : Policy) (x : Flags) : (s.withFlags p x).overlay = s.overlay := rfl
@[simp] theorem State.withFlags_vramBlocked (s : State) (p : Policy) (x : Flags) : (s.withFlags p x).vramBlocked = s.vramBlocked := rfl
@[simp] theorem State.withFlags_oamBlocked (s : State) (p : Policy) (x : Flags) : (s.withFlags p x).oamBlocked = s.oamBlocked := rfl
@[simp] theorem State.withFlags_mem (s : State) (p : Policy) (x : Flags) : (s.withFlags p x).mem = s.mem := rfl
@[simp] theorem State.withFlags_divPre (s : State) (p : Policy) (x : Flags) : (s.withFlags p x).divPre = s.divPre := rfl
@[simp] theorem State.withFlags_timaPre (s : State) (p : Policy) (x : Flags) : (s.withFlags p x).timaPre = s.timaPre := rfl
@[simp] theorem State.withFlags_cycles (s : State) (p : Policy) (x : Flags) : (s.withFlags p x).cycles = s.cycles := rfl
@[simp] theorem State.withFlags_serialOut (s : State) (p : Policy) (x : Flags) : (s.withFlags p x).serialOut = s.serialOut := rfl
@[simp] theorem State.withFlags_reports (s : State) (p : Policy) (x : Flags) : (s.withFlags p x).reports = s.reports := rfl
@[simp] theorem State.withFlags_platform (s : State) (p : Policy) (x : Flags) : (s.withFlags p x).platform = s.platform := rfl
@[simp] theorem State.withFlags_moves (s : State) (p : Policy) (x : Flags) : (s.withFlags p x).moves = s.moves := rfl
@[simp] theorem State.withFlags_f (s : State) (p : Policy) (x : Flags) :
    (s.withFlags p x).f = applyFlags p x s.f := rfl
@[simp] theorem State.withFlags_live (s : State) (p : Policy) (x : Flags) (y : Word) :
    (s.withFlags p x).live y = s.live y := rfl

/-! ### Words and their bytes -/

/-- Bit i of a word: of its low byte below 8, of its high byte from 8 on. -/
theorem word_getLsbD (lo hi : Byte) (i : Nat) :
    (word lo hi).getLsbD i = if i < 8 then lo.getLsbD i else hi.getLsbD (i - 8) := by
  have h : (word lo hi).getLsbD i =
      if i < 8 then lo.getLsbD i else hi.getLsbD (i - 8) := BitVec.getLsbD_append
  exact h

@[simp] theorem loByte_word (lo hi : Byte) : loByte (word lo hi) = lo := by
  apply BitVec.eq_of_getLsbD_eq
  intro i h
  simp [loByte, word_getLsbD, h]

@[simp] theorem hiByte_word (lo hi : Byte) : hiByte (word lo hi) = hi := by
  apply BitVec.eq_of_getLsbD_eq
  intro i h
  simp [hiByte, word_getLsbD, h]

@[simp] theorem word_bytes (v : Word) : word (loByte v) (hiByte v) = v := by
  apply BitVec.eq_of_getLsbD_eq
  intro i h
  rw [word_getLsbD]
  split_ifs with h8
  · simp [loByte, h8]
  · have h' : i - 8 < 8 := by omega
    simp [hiByte, h', show 8 + (i - 8) = i by omega]

@[simp] theorem State.setHl_hl (s : State) (v : Word) : (s.setHl v).hl = v := by
  simp [State.hl]

@[simp] theorem State.setR16_r16 (s : State) (p : Pair) (v : Word) : (s.setR16 p v).r16 p = v := by
  cases p <;> simp [State.setR16, State.r16, State.bc, State.de, State.hl]

end Sys2Proof.Machine
end

