-- ==== Sys2Proof/Laws/Ops.lean ====
section
/-!
SUPPORT. What the shared operations can do, said once: the collaborators' moves, the write contract,
the byte accesses, the stack helper, the timers. Later proofs cite these and do not unfold the
operations.
-/

namespace Sys2Proof.Machine

open Sys2Proof

/-! ### Live bytes -/

theorem State.store_live_same {s : State} (h : s.mem.wf = true) (x : Word) (v : Byte) :
    (s.store x v).live x = v := Memory.read_write_same_of_wf _ _ _ h

theorem State.store_live_other (s : State) {x y : Word} (v : Byte) (h : y ≠ x) :
    (s.store x v).live y = s.live y := by
  have : y.toNat ≠ x.toNat := fun e => h (BitVec.eq_of_toNat_eq e)
  simp [State.live, Memory.read_write_other _ v this]

/-! ### The collaborators' moves -/

@[simp] theorem State.requestInterrupt_a (s : State) (n : Source) : (s.requestInterrupt n).a = s.a := rfl
@[simp] theorem State.requestInterrupt_f (s : State) (n : Source) : (s.requestInterrupt n).f = s.f := rfl
@[simp] theorem State.requestInterrupt_b (s : State) (n : Source) : (s.requestInterrupt n).b = s.b := rfl
@[simp] theorem State.requestInterrupt_c (s : State) (n : Source) : (s.requestInterrupt n).c = s.c := rfl
@[simp] theorem State.requestInterrupt_d (s : State) (n : Source) : (s.requestInterrupt n).d = s.d := rfl
@[simp] theorem State.requestInterrupt_e (s : State) (n : Source) : (s.requestInterrupt n).e = s.e := rfl
@[simp] theorem State.requestInterrupt_h (s : State) (n : Source) : (s.requestInterrupt n).h = s.h := rfl
@[simp] theorem State.requestInterrupt_l (s : State) (n : Source) : (s.requestInterrupt n).l = s.l := rfl
@[simp] theorem State.requestInterrupt_sp (s : State) (n : Source) : (s.requestInterrupt n).sp = s.sp := rfl
@[simp] theorem State.requestInterrupt_pc (s : State) (n : Source) : (s.requestInterrupt n).pc = s.pc := rfl
@[simp] theorem State.requestInterrupt_ime (s : State) (n : Source) : (s.requestInterrupt n).ime = s.ime := rfl
@[simp] theorem State.requestInterrupt_imePending (s : State) (n : Source) : (s.requestInterrupt n).imePending = s.imePending := rfl
@[simp] theorem State.requestInterrupt_mode (s : State) (n : Source) : (s.requestInterrupt n).mode = s.mode := rfl
@[simp] theorem State.requestInterrupt_overlay (s : State) (n : Source) : (s.requestInterrupt n).overlay = s.overlay := rfl
@[simp] theorem State.requestInterrupt_divPre (s : State) (n : Source) : (s.requestInterrupt n).divPre = s.divPre := rfl
@[simp] theorem State.requestInterrupt_timaPre (s : State) (n : Source) : (s.requestInterrupt n).timaPre = s.timaPre := rfl
@[simp] theorem State.requestInterrupt_cycles (s : State) (n : Source) : (s.requestInterrupt n).cycles = s.cycles := rfl
@[simp] theorem State.requestInterrupt_serialOut (s : State) (n : Source) : (s.requestInterrupt n).serialOut = s.serialOut := rfl
@[simp] theorem State.requestInterrupt_reports (s : State) (n : Source) : (s.requestInterrupt n).reports = s.reports := rfl
@[simp] theorem State.requestInterrupt_platform (s : State) (n : Source) : (s.requestInterrupt n).platform = s.platform := rfl
@[simp] theorem State.requestInterrupt_moves (s : State) (n : Source) : (s.requestInterrupt n).moves = s.moves := rfl
@[simp] theorem State.requestInterrupt_vramBlocked (s : State) (n : Source) : (s.requestInterrupt n).vramBlocked = s.vramBlocked := rfl
@[simp] theorem State.requestInterrupt_oamBlocked (s : State) (n : Source) : (s.requestInterrupt n).oamBlocked = s.oamBlocked := rfl
@[simp] theorem State.applyMove_a (s : State) (m : Move) : (s.applyMove m).a = s.a := by cases m <;> rfl
@[simp] theorem State.applyMove_f (s : State) (m : Move) : (s.applyMove m).f = s.f := by cases m <;> rfl
@[simp] theorem State.applyMove_b (s : State) (m : Move) : (s.applyMove m).b = s.b := by cases m <;> rfl
@[simp] theorem State.applyMove_c (s : State) (m : Move) : (s.applyMove m).c = s.c := by cases m <;> rfl
@[simp] theorem State.applyMove_d (s : State) (m : Move) : (s.applyMove m).d = s.d := by cases m <;> rfl
@[simp] theorem State.applyMove_e (s : State) (m : Move) : (s.applyMove m).e = s.e := by cases m <;> rfl
@[simp] theorem State.applyMove_h (s : State) (m : Move) : (s.applyMove m).h = s.h := by cases m <;> rfl
@[simp] theorem State.applyMove_l (s : State) (m : Move) : (s.applyMove m).l = s.l := by cases m <;> rfl
@[simp] theorem State.applyMove_sp (s : State) (m : Move) : (s.applyMove m).sp = s.sp := by cases m <;> rfl
@[simp] theorem State.applyMove_pc (s : State) (m : Move) : (s.applyMove m).pc = s.pc := by cases m <;> rfl
@[simp] theorem State.applyMove_ime (s : State) (m : Move) : (s.applyMove m).ime = s.ime := by cases m <;> rfl
@[simp] theorem State.applyMove_imePending (s : State) (m : Move) : (s.applyMove m).imePending = s.imePending := by cases m <;> rfl
@[simp] theorem State.applyMove_mode (s : State) (m : Move) : (s.applyMove m).mode = s.mode := by cases m <;> rfl
@[simp] theorem State.applyMove_overlay (s : State) (m : Move) : (s.applyMove m).overlay = s.overlay := by cases m <;> rfl
@[simp] theorem State.applyMove_divPre (s : State) (m : Move) : (s.applyMove m).divPre = s.divPre := by cases m <;> rfl
@[simp] theorem State.applyMove_timaPre (s : State) (m : Move) : (s.applyMove m).timaPre = s.timaPre := by cases m <;> rfl
@[simp] theorem State.applyMove_cycles (s : State) (m : Move) : (s.applyMove m).cycles = s.cycles := by cases m <;> rfl
@[simp] theorem State.applyMove_serialOut (s : State) (m : Move) : (s.applyMove m).serialOut = s.serialOut := by cases m <;> rfl
@[simp] theorem State.applyMove_reports (s : State) (m : Move) : (s.applyMove m).reports = s.reports := by cases m <;> rfl
@[simp] theorem State.applyMove_platform (s : State) (m : Move) : (s.applyMove m).platform = s.platform := by cases m <;> rfl
@[simp] theorem State.applyMove_moves (s : State) (m : Move) : (s.applyMove m).moves = s.moves := by cases m <;> rfl
@[simp] theorem State.applyMoves_a (ms : List Move) (s : State) : (s.applyMoves ms).a = s.a := by
  induction ms generalizing s with
  | nil => rfl
  | cons m ms ih => simp [State.applyMoves, ih]
@[simp] theorem State.applyMoves_f (ms : List Move) (s : State) : (s.applyMoves ms).f = s.f := by
  induction ms generalizing s with
  | nil => rfl
  | cons m ms ih => simp [State.applyMoves, ih]
@[simp] theorem State.applyMoves_b (ms : List Move) (s : State) : (s.applyMoves ms).b = s.b := by
  induction ms generalizing s with
  | nil => rfl
  | cons m ms ih => simp [State.applyMoves, ih]
@[simp] theorem State.applyMoves_c (ms : List Move) (s : State) : (s.applyMoves ms).c = s.c := by
  induction ms generalizing s with
  | nil => rfl
  | cons m ms ih => simp [State.applyMoves, ih]
@[simp] theorem State.applyMoves_d (ms : List Move) (s : State) : (s.applyMoves ms).d = s.d := by
  induction ms generalizing s with
  | nil => rfl
  | cons m ms ih => simp [State.applyMoves, ih]
@[simp] theorem State.applyMoves_e (ms : List Move) (s : State) : (s.applyMoves ms).e = s.e := by
  induction ms generalizing s with
  | nil => rfl
  | cons m ms ih => simp [State.applyMoves, ih]
@[simp] theorem State.applyMoves_h (ms : List Move) (s : State) : (s.applyMoves ms).h = s.h := by
  induction ms generalizing s with
  | nil => rfl
  | cons m ms ih => simp [State.applyMoves, ih]
@[simp] theorem State.applyMoves_l (ms : List Move) (s : State) : (s.applyMoves ms).l = s.l := by
  induction ms generalizing s with
  | nil => rfl
  | cons m ms ih => simp [State.applyMoves, ih]
@[simp] theorem State.applyMoves_sp (ms : List Move) (s : State) : (s.applyMoves ms).sp = s.sp := by
  induction ms generalizing s with
  | nil => rfl
  | cons m ms ih => simp [State.applyMoves, ih]
@[simp] theorem State.applyMoves_pc (ms : List Move) (s : State) : (s.applyMoves ms).pc = s.pc := by
  induction ms generalizing s with
  | nil => rfl
  | cons m ms ih => simp [State.applyMoves, ih]
@[simp] theorem State.applyMoves_ime (ms : List Move) (s : State) : (s.applyMoves ms).ime = s.ime := by
  induction ms generalizing s with
  | nil => rfl
  | cons m ms ih => simp [State.applyMoves, ih]
@[simp] theorem State.applyMoves_imePending (ms : List Move) (s : State) : (s.applyMoves ms).imePending = s.imePending := by
  induction ms generalizing s with
  | nil => rfl
  | cons m ms ih => simp [State.applyMoves, ih]
@[simp] theorem State.applyMoves_mode (ms : List Move) (s : State) : (s.applyMoves ms).mode = s.mode := by
  induction ms generalizing s with
  | nil => rfl
  | cons m ms ih => simp [State.applyMoves, ih]
@[simp] theorem State.applyMoves_overlay (ms : List Move) (s : State) : (s.applyMoves ms).overlay = s.overlay := by
  induction ms generalizing s with
  | nil => rfl
  | cons m ms ih => simp [State.applyMoves, ih]
@[simp] theorem State.applyMoves_divPre (ms : List Move) (s : State) : (s.applyMoves ms).divPre = s.divPre := by
  induction ms generalizing s with
  | nil => rfl
  | cons m ms ih => simp [State.applyMoves, ih]
@[simp] theorem State.applyMoves_timaPre (ms : List Move) (s : State) : (s.applyMoves ms).timaPre = s.timaPre := by
  induction ms generalizing s with
  | nil => rfl
  | cons m ms ih => simp [State.applyMoves, ih]
@[simp] theorem State.applyMoves_cycles (ms : List Move) (s : State) : (s.applyMoves ms).cycles = s.cycles := by
  induction ms generalizing s with
  | nil => rfl
  | cons m ms ih => simp [State.applyMoves, ih]
@[simp] theorem State.applyMoves_serialOut (ms : List Move) (s : State) : (s.applyMoves ms).serialOut = s.serialOut := by
  induction ms generalizing s with
  | nil => rfl
  | cons m ms ih => simp [State.applyMoves, ih]
@[simp] theorem State.applyMoves_reports (ms : List Move) (s : State) : (s.applyMoves ms).reports = s.reports := by
  induction ms generalizing s with
  | nil => rfl
  | cons m ms ih => simp [State.applyMoves, ih]
@[simp] theorem State.applyMoves_platform (ms : List Move) (s : State) : (s.applyMoves ms).platform = s.platform := by
  induction ms generalizing s with
  | nil => rfl
  | cons m ms ih => simp [State.applyMoves, ih]
@[simp] theorem State.applyMoves_moves (ms : List Move) (s : State) : (s.applyMoves ms).moves = s.moves := by
  induction ms generalizing s with
  | nil => rfl
  | cons m ms ih => simp [State.applyMoves, ih]
@[simp] theorem State.takeMoves_a (s : State) : s.takeMoves.a = s.a := by
  unfold State.takeMoves; split <;> simp
@[simp] theorem State.takeMoves_f (s : State) : s.takeMoves.f = s.f := by
  unfold State.takeMoves; split <;> simp
@[simp] theorem State.takeMoves_b (s : State) : s.takeMoves.b = s.b := by
  unfold State.takeMoves; split <;> simp
@[simp] theorem State.takeMoves_c (s : State) : s.takeMoves.c = s.c := by
  unfold State.takeMoves; split <;> simp
@[simp] theorem State.takeMoves_d (s : State) : s.takeMoves.d = s.d := by
  unfold State.takeMoves; split <;> simp
@[simp] theorem State.takeMoves_e (s : State) : s.takeMoves.e = s.e := by
  unfold State.takeMoves; split <;> simp
@[simp] theorem State.takeMoves_h (s : State) : s.takeMoves.h = s.h := by
  unfold State.takeMoves; split <;> simp
@[simp] theorem State.takeMoves_l (s : State) : s.takeMoves.l = s.l := by
  unfold State.takeMoves; split <;> simp
@[simp] theorem State.takeMoves_sp (s : State) : s.takeMoves.sp = s.sp := by
  unfold State.takeMoves; split <;> simp
@[simp] theorem State.takeMoves_pc (s : State) : s.takeMoves.pc = s.pc := by
  unfold State.takeMoves; split <;> simp
@[simp] theorem State.takeMoves_ime (s : State) : s.takeMoves.ime = s.ime := by
  unfold State.takeMoves; split <;> simp
@[simp] theorem State.takeMoves_imePending (s : State) : s.takeMoves.imePending = s.imePending := by
  unfold State.takeMoves; split <;> simp
@[simp] theorem State.takeMoves_mode (s : State) : s.takeMoves.mode = s.mode := by
  unfold State.takeMoves; split <;> simp
@[simp] theorem State.takeMoves_overlay (s : State) : s.takeMoves.overlay = s.overlay := by
  unfold State.takeMoves; split <;> simp
@[simp] theorem State.takeMoves_divPre (s : State) : s.takeMoves.divPre = s.divPre := by
  unfold State.takeMoves; split <;> simp
@[simp] theorem State.takeMoves_timaPre (s : State) : s.takeMoves.timaPre = s.timaPre := by
  unfold State.takeMoves; split <;> simp
@[simp] theorem State.takeMoves_cycles (s : State) : s.takeMoves.cycles = s.cycles := by
  unfold State.takeMoves; split <;> simp
@[simp] theorem State.takeMoves_serialOut (s : State) : s.takeMoves.serialOut = s.serialOut := by
  unfold State.takeMoves; split <;> simp
@[simp] theorem State.takeMoves_reports (s : State) : s.takeMoves.reports = s.reports := by
  unfold State.takeMoves; split <;> simp
@[simp] theorem State.takeMoves_platform (s : State) : s.takeMoves.platform = s.platform := by
  unfold State.takeMoves; split <;> simp
@[simp] theorem State.takeMoves_moves (s : State) : s.takeMoves.moves = s.moves.tail := by
  unfold State.takeMoves; split <;> simp [*]

/-- With no move scheduled an interleaving point does nothing. -/
theorem State.takeMoves_of_nil {s : State} (h : s.moves = []) : s.takeMoves = s := by
  simp [State.takeMoves, h]

/-- A move changes no live byte but LY and IF (R322 to R325). -/
theorem State.applyMove_live (s : State) (m : Move) {x : Word} (h1 : x ≠ s.platform.addrLy) (h2 : x ≠ s.platform.addrIf) :
    (s.applyMove m).live x = s.live x := by
  cases m with
  | setVramBlocked | setOamBlocked => rfl
  | storeLy v => exact State.store_live_other s v h1
  | requestVblank | requestLcd | requestJoypad => exact State.store_live_other s _ h2

theorem State.applyMoves_live (ms : List Move) (s : State) {x : Word} (h1 : x ≠ s.platform.addrLy)
    (h2 : x ≠ s.platform.addrIf) : (s.applyMoves ms).live x = s.live x := by
  induction ms generalizing s with
  | nil => rfl
  | cons m ms ih =>
    rw [State.applyMoves, ih _ (by simpa using h1) (by simpa using h2), State.applyMove_live s m h1 h2]

/-- An interleaving point changes no live byte but LY and IF (R322 to R325). -/
theorem State.takeMoves_live (s : State) {x : Word} (h1 : x ≠ s.platform.addrLy) (h2 : x ≠ s.platform.addrIf) :
    s.takeMoves.live x = s.live x := by
  unfold State.takeMoves
  split
  · rfl
  · exact (State.applyMoves_live _ _ (by exact h1) (by exact h2)).trans rfl

/-! ### The write contract -/

@[simp] theorem State.memWrite_a (s : State) (x : Word) (v : Byte) : (s.memWrite x v).a = s.a := by
  unfold State.memWrite State.writeBootOff State.writeSc State.writeDiv; split_ifs <;> rfl
@[simp] theorem State.memWrite_f (s : State) (x : Word) (v : Byte) : (s.memWrite x v).f = s.f := by
  unfold State.memWrite State.writeBootOff State.writeSc State.writeDiv; split_ifs <;> rfl
@[simp] theorem State.memWrite_b (s : State) (x : Word) (v : Byte) : (s.memWrite x v).b = s.b := by
  unfold State.memWrite State.writeBootOff State.writeSc State.writeDiv; split_ifs <;> rfl
@[simp] theorem State.memWrite_c (s : State) (x : Word) (v : Byte) : (s.memWrite x v).c = s.c := by
  unfold State.memWrite State.writeBootOff State.writeSc State.writeDiv; split_ifs <;> rfl
@[simp] theorem State.memWrite_d (s : State) (x : Word) (v : Byte) : (s.memWrite x v).d = s.d := by
  unfold State.memWrite State.writeBootOff State.writeSc State.writeDiv; split_ifs <;> rfl
@[simp] theorem State.memWrite_e (s : State) (x : Word) (v : Byte) : (s.memWrite x v).e = s.e := by
  unfold State.memWrite State.writeBootOff State.writeSc State.writeDiv; split_ifs <;> rfl
@[simp] theorem State.memWrite_h (s : State) (x : Word) (v : Byte) : (s.memWrite x v).h = s.h := by
  unfold State.memWrite State.writeBootOff State.writeSc State.writeDiv; split_ifs <;> rfl
@[simp] theorem State.memWrite_l (s : State) (x : Word) (v : Byte) : (s.memWrite x v).l = s.l := by
  unfold State.memWrite State.writeBootOff State.writeSc State.writeDiv; split_ifs <;> rfl
@[simp] theorem State.memWrite_sp (s : State) (x : Word) (v : Byte) : (s.memWrite x v).sp = s.sp := by
  unfold State.memWrite State.writeBootOff State.writeSc State.writeDiv; split_ifs <;> rfl
@[simp] theorem State.memWrite_pc (s : State) (x : Word) (v : Byte) : (s.memWrite x v).pc = s.pc := by
  unfold State.memWrite State.writeBootOff State.writeSc State.writeDiv; split_ifs <;> rfl
@[simp] theorem State.memWrite_ime (s : State) (x : Word) (v : Byte) : (s.memWrite x v).ime = s.ime := by
  unfold State.memWrite State.writeBootOff State.writeSc State.writeDiv; split_ifs <;> rfl
@[simp] theorem State.memWrite_imePending (s : State) (x : Word) (v : Byte) : (s.memWrite x v).imePending = s.imePending := by
  unfold State.memWrite State.writeBootOff State.writeSc State.writeDiv; split_ifs <;> rfl
@[simp] theorem State.memWrite_mode (s : State) (x : Word) (v : Byte) : (s.memWrite x v).mode = s.mode := by
  unfold State.memWrite State.writeBootOff State.writeSc State.writeDiv; split_ifs <;> rfl
@[simp] theorem State.memWrite_vramBlocked (s : State) (x : Word) (v : Byte) : (s.memWrite x v).vramBlocked = s.vramBlocked := by
  unfold State.memWrite State.writeBootOff State.writeSc State.writeDiv; split_ifs <;> rfl
@[simp] theorem State.memWrite_oamBlocked (s : State) (x : Word) (v : Byte) : (s.memWrite x v).oamBlocked = s.oamBlocked := by
  unfold State.memWrite State.writeBootOff State.writeSc State.writeDiv; split_ifs <;> rfl
@[simp] theorem State.memWrite_timaPre (s : State) (x : Word) (v : Byte) : (s.memWrite x v).timaPre = s.timaPre := by
  unfold State.memWrite State.writeBootOff State.writeSc State.writeDiv; split_ifs <;> rfl
@[simp] theorem State.memWrite_cycles (s : State) (x : Word) (v : Byte) : (s.memWrite x v).cycles = s.cycles := by
  unfold State.memWrite State.writeBootOff State.writeSc State.writeDiv; split_ifs <;> rfl
@[simp] theorem State.memWrite_reports (s : State) (x : Word) (v : Byte) : (s.memWrite x v).reports = s.reports := by
  unfold State.memWrite State.writeBootOff State.writeSc State.writeDiv; split_ifs <;> rfl
@[simp] theorem State.memWrite_platform (s : State) (x : Word) (v : Byte) : (s.memWrite x v).platform = s.platform := by
  unfold State.memWrite State.writeBootOff State.writeSc State.writeDiv; split_ifs <;> rfl
@[simp] theorem State.memWrite_moves (s : State) (x : Word) (v : Byte) : (s.memWrite x v).moves = s.moves := by
  unfold State.memWrite State.writeBootOff State.writeSc State.writeDiv; split_ifs <;> rfl

/-! ### Byte accesses and the stack helper -/

@[simp] theorem State.busWrite_a (s : State) (x : Word) (v : Byte) : (s.busWrite x v).a = s.a := by simp [State.busWrite]
@[simp] theorem State.busWrite_f (s : State) (x : Word) (v : Byte) : (s.busWrite x v).f = s.f := by simp [State.busWrite]
@[simp] theorem State.busWrite_b (s : State) (x : Word) (v : Byte) : (s.busWrite x v).b = s.b := by simp [State.busWrite]
@[simp] theorem State.busWrite_c (s : State) (x : Word) (v : Byte) : (s.busWrite x v).c = s.c := by simp [State.busWrite]
@[simp] theorem State.busWrite_d (s : State) (x : Word) (v : Byte) : (s.busWrite x v).d = s.d := by simp [State.busWrite]
@[simp] theorem State.busWrite_e (s : State) (x : Word) (v : Byte) : (s.busWrite x v).e = s.e := by simp [State.busWrite]
@[simp] theorem State.busWrite_h (s : State) (x : Word) (v : Byte) : (s.busWrite x v).h = s.h := by simp [State.busWrite]
@[simp] theorem State.busWrite_l (s : State) (x : Word) (v : Byte) : (s.busWrite x v).l = s.l := by simp [State.busWrite]
@[simp] theorem State.busWrite_sp (s : State) (x : Word) (v : Byte) : (s.busWrite x v).sp = s.sp := by simp [State.busWrite]
@[simp] theorem State.busWrite_pc (s : State) (x : Word) (v : Byte) : (s.busWrite x v).pc = s.pc := by simp [State.busWrite]
@[simp] theorem State.busWrite_ime (s : State) (x : Word) (v : Byte) : (s.busWrite x v).ime = s.ime := by simp [State.busWrite]
@[simp] theorem State.busWrite_imePending (s : State) (x : Word) (v : Byte) : (s.busWrite x v).imePending = s.imePending := by simp [State.busWrite]
@[simp] theorem State.busWrite_mode (s : State) (x : Word) (v : Byte) : (s.busWrite x v).mode = s.mode := by simp [State.busWrite]
@[simp] theorem State.busWrite_timaPre (s : State) (x : Word) (v : Byte) : (s.busWrite x v).timaPre = s.timaPre := by simp [State.busWrite]
@[simp] theorem State.busWrite_cycles (s : State) (x : Word) (v : Byte) : (s.busWrite x v).cycles = s.cycles := by simp [State.busWrite]
@[simp] theorem State.busWrite_reports (s : State) (x : Word) (v : Byte) : (s.busWrite x v).reports = s.reports := by simp [State.busWrite]
@[simp] theorem State.busWrite_platform (s : State) (x : Word) (v : Byte) : (s.busWrite x v).platform = s.platform := by simp [State.busWrite]
@[simp] theorem State.busWrite_moves (s : State) (x : Word) (v : Byte) : (s.busWrite x v).moves = s.moves.tail := by simp [State.busWrite]
@[simp] theorem State.busWrite16_a (s : State) (x v : Word) : (s.busWrite16 x v).a = s.a := by simp [State.busWrite16]
@[simp] theorem State.busWrite16_f (s : State) (x v : Word) : (s.busWrite16 x v).f = s.f := by simp [State.busWrite16]
@[simp] theorem State.busWrite16_b (s : State) (x v : Word) : (s.busWrite16 x v).b = s.b := by simp [State.busWrite16]
@[simp] theorem State.busWrite16_c (s : State) (x v : Word) : (s.busWrite16 x v).c = s.c := by simp [State.busWrite16]
@[simp] theorem State.busWrite16_d (s : State) (x v : Word) : (s.busWrite16 x v).d = s.d := by simp [State.busWrite16]
@[simp] theorem State.busWrite16_e (s : State) (x v : Word) : (s.busWrite16 x v).e = s.e := by simp [State.busWrite16]
@[simp] theorem State.busWrite16_h (s : State) (x v : Word) : (s.busWrite16 x v).h = s.h := by simp [State.busWrite16]
@[simp] theorem State.busWrite16_l (s : State) (x v : Word) : (s.busWrite16 x v).l = s.l := by simp [State.busWrite16]
@[simp] theorem State.busWrite16_sp (s : State) (x v : Word) : (s.busWrite16 x v).sp = s.sp := by simp [State.busWrite16]
@[simp] theorem State.busWrite16_pc (s : State) (x v : Word) : (s.busWrite16 x v).pc = s.pc := by simp [State.busWrite16]
@[simp] theorem State.busWrite16_ime (s : State) (x v : Word) : (s.busWrite16 x v).ime = s.ime := by simp [State.busWrite16]
@[simp] theorem State.busWrite16_imePending (s : State) (x v : Word) : (s.busWrite16 x v).imePending = s.imePending := by simp [State.busWrite16]
@[simp] theorem State.busWrite16_mode (s : State) (x v : Word) : (s.busWrite16 x v).mode = s.mode := by simp [State.busWrite16]
@[simp] theorem State.busWrite16_timaPre (s : State) (x v : Word) : (s.busWrite16 x v).timaPre = s.timaPre := by simp [State.busWrite16]
@[simp] theorem State.busWrite16_cycles (s : State) (x v : Word) : (s.busWrite16 x v).cycles = s.cycles := by simp [State.busWrite16]
@[simp] theorem State.busWrite16_reports (s : State) (x v : Word) : (s.busWrite16 x v).reports = s.reports := by simp [State.busWrite16]
@[simp] theorem State.busWrite16_platform (s : State) (x v : Word) : (s.busWrite16 x v).platform = s.platform := by simp [State.busWrite16]
@[simp] theorem State.busWrite16_moves (s : State) (x v : Word) : (s.busWrite16 x v).moves = s.moves.tail.tail := by simp [State.busWrite16]
@[simp] theorem State.push16_a (s : State) (v : Word) : (s.push16 v).a = s.a := by simp [State.push16]
@[simp] theorem State.push16_f (s : State) (v : Word) : (s.push16 v).f = s.f := by simp [State.push16]
@[simp] theorem State.push16_b (s : State) (v : Word) : (s.push16 v).b = s.b := by simp [State.push16]
@[simp] theorem State.push16_c (s : State) (v : Word) : (s.push16 v).c = s.c := by simp [State.push16]
@[simp] theorem State.push16_d (s : State) (v : Word) : (s.push16 v).d = s.d := by simp [State.push16]
@[simp] theorem State.push16_e (s : State) (v : Word) : (s.push16 v).e = s.e := by simp [State.push16]
@[simp] theorem State.push16_h (s : State) (v : Word) : (s.push16 v).h = s.h := by simp [State.push16]
@[simp] theorem State.push16_l (s : State) (v : Word) : (s.push16 v).l = s.l := by simp [State.push16]
@[simp] theorem State.push16_sp (s : State) (v : Word) : (s.push16 v).sp = s.sp - 2 := by simp [State.push16]
@[simp] theorem State.push16_pc (s : State) (v : Word) : (s.push16 v).pc = s.pc := by simp [State.push16]
@[simp] theorem State.push16_ime (s : State) (v : Word) : (s.push16 v).ime = s.ime := by simp [State.push16]
@[simp] theorem State.push16_imePending (s : State) (v : Word) : (s.push16 v).imePending = s.imePending := by simp [State.push16]
@[simp] theorem State.push16_mode (s : State) (v : Word) : (s.push16 v).mode = s.mode := by simp [State.push16]
@[simp] theorem State.push16_timaPre (s : State) (v : Word) : (s.push16 v).timaPre = s.timaPre := by simp [State.push16]
@[simp] theorem State.push16_cycles (s : State) (v : Word) : (s.push16 v).cycles = s.cycles := by simp [State.push16]
@[simp] theorem State.push16_reports (s : State) (v : Word) : (s.push16 v).reports = s.reports := by simp [State.push16]
@[simp] theorem State.push16_platform (s : State) (v : Word) : (s.push16 v).platform = s.platform := by simp [State.push16]
@[simp] theorem State.push16_moves (s : State) (v : Word) : (s.push16 v).moves = s.moves.tail.tail := by simp [State.push16]

@[simp] theorem State.busRead_snd (s : State) (x : Word) : (s.busRead x).2 = s.takeMoves := rfl
@[simp] theorem State.busRead_fst (s : State) (x : Word) :
    (s.busRead x).1 = s.takeMoves.memRead x := rfl
@[simp] theorem State.imm8_snd (s : State) :
    s.imm8.2 = { s.takeMoves with pc := s.pc + 1 } := rfl
@[simp] theorem State.imm8_fst (s : State) : s.imm8.1 = s.takeMoves.memRead s.pc := rfl
@[simp] theorem State.busRead16_snd (s : State) (x : Word) :
    (s.busRead16 x).2 = s.takeMoves.takeMoves := rfl
@[simp] theorem State.busRead16_fst (s : State) (x : Word) :
    (s.busRead16 x).1 = word (s.takeMoves.memRead x) (s.takeMoves.takeMoves.memRead (x + 1)) := rfl
@[simp] theorem State.pop16_snd (s : State) :
    s.pop16.2 = { s.takeMoves.takeMoves with sp := s.sp + 2 } := rfl
@[simp] theorem State.pop16_fst (s : State) :
    s.pop16.1 = word (s.takeMoves.memRead s.sp) (s.takeMoves.takeMoves.memRead (s.sp + 1)) := rfl

/-- Reading a byte does not look at PC or SP. -/
@[simp] theorem State.memRead_pc (s : State) (p x : Word) :
    ({ s with pc := p } : State).memRead x = s.memRead x := rfl
@[simp] theorem State.memRead_sp (s : State) (p x : Word) :
    ({ s with sp := p } : State).memRead x = s.memRead x := rfl

/-- A store through the contract changes no live byte but the one stored to, and IF when the store
is a serial transfer (R64 to R69). -/
theorem State.memWrite_live (s : State) (x : Word) (v : Byte) {y : Word} (h : y ≠ x)
    (hif : y = s.platform.addrIf → x ≠ s.platform.addrSc) : (s.memWrite x v).live y = s.live y := by
  unfold State.memWrite
  split_ifs with h1 h2 h3 h4 h5 h6 h7
  · rfl
  · rfl
  · rfl
  · subst h4; exact State.store_live_other _ v h
  · subst h5; exact State.store_live_other _ v h
  · subst h6
    have hy : y ≠ s.platform.addrIf := fun e => hif e rfl
    unfold State.writeSc
    split_ifs
    · rw [State.store_live_other _ _ h]
      exact State.store_live_other _ _ hy
    · exact State.store_live_other _ _ h
  · subst h7
    unfold State.writeDiv
    dsimp only
    split_ifs <;> exact State.store_live_other s 0x00 h
  · exact State.store_live_other _ _ h

/-- The overlay latch is one-way: a store never sets it (R39, R65). -/
theorem State.memWrite_overlay_false (s : State) (x : Word) (v : Byte) (h : s.overlay = false) :
    (s.memWrite x v).overlay = false := by
  unfold State.memWrite State.writeBootOff State.writeSc State.writeDiv
  split_ifs <;> simp [h]

/-- Serial output only grows (R47). -/
theorem State.memWrite_serialOut (s : State) (x : Word) (v : Byte) :
    s.serialOut <+: (s.memWrite x v).serialOut := by
  unfold State.memWrite State.writeBootOff State.writeSc State.writeDiv
  split_ifs <;> simp

/-! ### The timers -/

/-- A property every round keeps holds after all of them. -/
theorem rounds_inv {P : State → Prop} {f : State → State} (h : ∀ s, P s → P (f s)) :
    ∀ (n : Nat) (s : State), P s → P (rounds n f s)
  | 0, _, hs => hs
  | n + 1, s, hs => rounds_inv h n (f s) (h s hs)

/-- A field no round changes is unchanged after all of them. -/
theorem rounds_proj {α : Type} (g : State → α) {f : State → State} (h : ∀ s, g (f s) = g s) :
    ∀ (n : Nat) (s : State), g (rounds n f s) = g s
  | 0, _ => rfl
  | n + 1, s => by rw [rounds, rounds_proj g h n (f s), h]

theorem timaTick_live_other (s : State) {x : Word} (h1 : x ≠ s.platform.addrTima) (h2 : x ≠ s.platform.addrIf) :
    (timaTick s).live x = s.live x := by
  unfold timaTick
  split_ifs
  · exact (State.store_live_other _ _ h2).trans (State.store_live_other _ _ h1)
  · exact State.store_live_other _ _ h1

@[simp] theorem divTick_a (s : State) : (divTick s).a = s.a := rfl
@[simp] theorem divTick_f (s : State) : (divTick s).f = s.f := rfl
@[simp] theorem divTick_b (s : State) : (divTick s).b = s.b := rfl
@[simp] theorem divTick_c (s : State) : (divTick s).c = s.c := rfl
@[simp] theorem divTick_d (s : State) : (divTick s).d = s.d := rfl
@[simp] theorem divTick_e (s : State) : (divTick s).e = s.e := rfl
@[simp] theorem divTick_h (s : State) : (divTick s).h = s.h := rfl
@[simp] theorem divTick_l (s : State) : (divTick s).l = s.l := rfl
@[simp] theorem divTick_sp (s : State) : (divTick s).sp = s.sp := rfl
@[simp] theorem divTick_pc (s : State) : (divTick s).pc = s.pc := rfl
@[simp] theorem divTick_ime (s : State) : (divTick s).ime = s.ime := rfl
@[simp] theorem divTick_imePending (s : State) : (divTick s).imePending = s.imePending := rfl
@[simp] theorem divTick_mode (s : State) : (divTick s).mode = s.mode := rfl
@[simp] theorem divTick_overlay (s : State) : (divTick s).overlay = s.overlay := rfl
@[simp] theorem divTick_vramBlocked (s : State) : (divTick s).vramBlocked = s.vramBlocked := rfl
@[simp] theorem divTick_oamBlocked (s : State) : (divTick s).oamBlocked = s.oamBlocked := rfl
@[simp] theorem divTick_divPre (s : State) : (divTick s).divPre = s.divPre := rfl
@[simp] theorem divTick_timaPre (s : State) : (divTick s).timaPre = s.timaPre := rfl
@[simp] theorem divTick_cycles (s : State) : (divTick s).cycles = s.cycles := rfl
@[simp] theorem divTick_serialOut (s : State) : (divTick s).serialOut = s.serialOut := rfl
@[simp] theorem divTick_reports (s : State) : (divTick s).reports = s.reports := rfl
@[simp] theorem divTick_platform (s : State) : (divTick s).platform = s.platform := rfl
@[simp] theorem divTick_moves (s : State) : (divTick s).moves = s.moves := rfl
@[simp] theorem timaTick_a (s : State) : (timaTick s).a = s.a := by unfold timaTick; split_ifs <;> rfl
@[simp] theorem timaTick_f (s : State) : (timaTick s).f = s.f := by unfold timaTick; split_ifs <;> rfl
@[simp] theorem timaTick_b (s : State) : (timaTick s).b = s.b := by unfold timaTick; split_ifs <;> rfl
@[simp] theorem timaTick_c (s : State) : (timaTick s).c = s.c := by unfold timaTick; split_ifs <;> rfl
@[simp] theorem timaTick_d (s : State) : (timaTick s).d = s.d := by unfold timaTick; split_ifs <;> rfl
@[simp] theorem timaTick_e (s : State) : (timaTick s).e = s.e := by unfold timaTick; split_ifs <;> rfl
@[simp] theorem timaTick_h (s : State) : (timaTick s).h = s.h := by unfold timaTick; split_ifs <;> rfl
@[simp] theorem timaTick_l (s : State) : (timaTick s).l = s.l := by unfold timaTick; split_ifs <;> rfl
@[simp] theorem timaTick_sp (s : State) : (timaTick s).sp = s.sp := by unfold timaTick; split_ifs <;> rfl
@[simp] theorem timaTick_pc (s : State) : (timaTick s).pc = s.pc := by unfold timaTick; split_ifs <;> rfl
@[simp] theorem timaTick_ime (s : State) : (timaTick s).ime = s.ime := by unfold timaTick; split_ifs <;> rfl
@[simp] theorem timaTick_imePending (s : State) : (timaTick s).imePending = s.imePending := by unfold timaTick; split_ifs <;> rfl
@[simp] theorem timaTick_mode (s : State) : (timaTick s).mode = s.mode := by unfold timaTick; split_ifs <;> rfl
@[simp] theorem timaTick_overlay (s : State) : (timaTick s).overlay = s.overlay := by unfold timaTick; split_ifs <;> rfl
@[simp] theorem timaTick_vramBlocked (s : State) : (timaTick s).vramBlocked = s.vramBlocked := by unfold timaTick; split_ifs <;> rfl
@[simp] theorem timaTick_oamBlocked (s : State) : (timaTick s).oamBlocked = s.oamBlocked := by unfold timaTick; split_ifs <;> rfl
@[simp] theorem timaTick_divPre (s : State) : (timaTick s).divPre = s.divPre := by unfold timaTick; split_ifs <;> rfl
@[simp] theorem timaTick_timaPre (s : State) : (timaTick s).timaPre = s.timaPre := by unfold timaTick; split_ifs <;> rfl
@[simp] theorem timaTick_cycles (s : State) : (timaTick s).cycles = s.cycles := by unfold timaTick; split_ifs <;> rfl
@[simp] theorem timaTick_serialOut (s : State) : (timaTick s).serialOut = s.serialOut := by unfold timaTick; split_ifs <;> rfl
@[simp] theorem timaTick_reports (s : State) : (timaTick s).reports = s.reports := by unfold timaTick; split_ifs <;> rfl
@[simp] theorem timaTick_platform (s : State) : (timaTick s).platform = s.platform := by unfold timaTick; split_ifs <;> rfl
@[simp] theorem timaTick_moves (s : State) : (timaTick s).moves = s.moves := by unfold timaTick; split_ifs <;> rfl
@[simp] theorem divAdvance_a (c : Nat) (s : State) : (divAdvance c s).a = s.a := rounds_proj (·.a) (by simp) _ _
@[simp] theorem divAdvance_f (c : Nat) (s : State) : (divAdvance c s).f = s.f := rounds_proj (·.f) (by simp) _ _
@[simp] theorem divAdvance_b (c : Nat) (s : State) : (divAdvance c s).b = s.b := rounds_proj (·.b) (by simp) _ _
@[simp] theorem divAdvance_c (c : Nat) (s : State) : (divAdvance c s).c = s.c := rounds_proj (·.c) (by simp) _ _
@[simp] theorem divAdvance_d (c : Nat) (s : State) : (divAdvance c s).d = s.d := rounds_proj (·.d) (by simp) _ _
@[simp] theorem divAdvance_e (c : Nat) (s : State) : (divAdvance c s).e = s.e := rounds_proj (·.e) (by simp) _ _
@[simp] theorem divAdvance_h (c : Nat) (s : State) : (divAdvance c s).h = s.h := rounds_proj (·.h) (by simp) _ _
@[simp] theorem divAdvance_l (c : Nat) (s : State) : (divAdvance c s).l = s.l := rounds_proj (·.l) (by simp) _ _
@[simp] theorem divAdvance_sp (c : Nat) (s : State) : (divAdvance c s).sp = s.sp := rounds_proj (·.sp) (by simp) _ _
@[simp] theorem divAdvance_pc (c : Nat) (s : State) : (divAdvance c s).pc = s.pc := rounds_proj (·.pc) (by simp) _ _
@[simp] theorem divAdvance_ime (c : Nat) (s : State) : (divAdvance c s).ime = s.ime := rounds_proj (·.ime) (by simp) _ _
@[simp] theorem divAdvance_imePending (c : Nat) (s : State) : (divAdvance c s).imePending = s.imePending := rounds_proj (·.imePending) (by simp) _ _
@[simp] theorem divAdvance_mode (c : Nat) (s : State) : (divAdvance c s).mode = s.mode := rounds_proj (·.mode) (by simp) _ _
@[simp] theorem divAdvance_overlay (c : Nat) (s : State) : (divAdvance c s).overlay = s.overlay := rounds_proj (·.overlay) (by simp) _ _
@[simp] theorem divAdvance_vramBlocked (c : Nat) (s : State) : (divAdvance c s).vramBlocked = s.vramBlocked := rounds_proj (·.vramBlocked) (by simp) _ _
@[simp] theorem divAdvance_oamBlocked (c : Nat) (s : State) : (divAdvance c s).oamBlocked = s.oamBlocked := rounds_proj (·.oamBlocked) (by simp) _ _
@[simp] theorem divAdvance_serialOut (c : Nat) (s : State) : (divAdvance c s).serialOut = s.serialOut := rounds_proj (·.serialOut) (by simp) _ _
@[simp] theorem divAdvance_reports (c : Nat) (s : State) : (divAdvance c s).reports = s.reports := rounds_proj (·.reports) (by simp) _ _
@[simp] theorem divAdvance_platform (c : Nat) (s : State) : (divAdvance c s).platform = s.platform := rounds_proj (·.platform) (by simp) _ _
@[simp] theorem divAdvance_moves (c : Nat) (s : State) : (divAdvance c s).moves = s.moves := rounds_proj (·.moves) (by simp) _ _
@[simp] theorem timaAdvance_a (c : Nat) (s : State) : (timaAdvance c s).a = s.a := by
  unfold timaAdvance; split_ifs
  · exact rounds_proj (·.a) (by simp) _ _
  · rfl
@[simp] theorem timaAdvance_f (c : Nat) (s : State) : (timaAdvance c s).f = s.f := by
  unfold timaAdvance; split_ifs
  · exact rounds_proj (·.f) (by simp) _ _
  · rfl
@[simp] theorem timaAdvance_b (c : Nat) (s : State) : (timaAdvance c s).b = s.b := by
  unfold timaAdvance; split_ifs
  · exact rounds_proj (·.b) (by simp) _ _
  · rfl
@[simp] theorem timaAdvance_c (c : Nat) (s : State) : (timaAdvance c s).c = s.c := by
  unfold timaAdvance; split_ifs
  · exact rounds_proj (·.c) (by simp) _ _
  · rfl
@[simp] theorem timaAdvance_d (c : Nat) (s : State) : (timaAdvance c s).d = s.d := by
  unfold timaAdvance; split_ifs
  · exact rounds_proj (·.d) (by simp) _ _
  · rfl
@[simp] theorem timaAdvance_e (c : Nat) (s : State) : (timaAdvance c s).e = s.e := by
  unfold timaAdvance; split_ifs
  · exact rounds_proj (·.e) (by simp) _ _
  · rfl
@[simp] theorem timaAdvance_h (c : Nat) (s : State) : (timaAdvance c s).h = s.h := by
  unfold timaAdvance; split_ifs
  · exact rounds_proj (·.h) (by simp) _ _
  · rfl
@[simp] theorem timaAdvance_l (c : Nat) (s : State) : (timaAdvance c s).l = s.l := by
  unfold timaAdvance; split_ifs
  · exact rounds_proj (·.l) (by simp) _ _
  · rfl
@[simp] theorem timaAdvance_sp (c : Nat) (s : State) : (timaAdvance c s).sp = s.sp := by
  unfold timaAdvance; split_ifs
  · exact rounds_proj (·.sp) (by simp) _ _
  · rfl
@[simp] theorem timaAdvance_pc (c : Nat) (s : State) : (timaAdvance c s).pc = s.pc := by
  unfold timaAdvance; split_ifs
  · exact rounds_proj (·.pc) (by simp) _ _
  · rfl
@[simp] theorem timaAdvance_ime (c : Nat) (s : State) : (timaAdvance c s).ime = s.ime := by
  unfold timaAdvance; split_ifs
  · exact rounds_proj (·.ime) (by simp) _ _
  · rfl
@[simp] theorem timaAdvance_imePending (c : Nat) (s : State) : (timaAdvance c s).imePending = s.imePending := by
  unfold timaAdvance; split_ifs
  · exact rounds_proj (·.imePending) (by simp) _ _
  · rfl
@[simp] theorem timaAdvance_mode (c : Nat) (s : State) : (timaAdvance c s).mode = s.mode := by
  unfold timaAdvance; split_ifs
  · exact rounds_proj (·.mode) (by simp) _ _
  · rfl
@[simp] theorem timaAdvance_overlay (c : Nat) (s : State) : (timaAdvance c s).overlay = s.overlay := by
  unfold timaAdvance; split_ifs
  · exact rounds_proj (·.overlay) (by simp) _ _
  · rfl
@[simp] theorem timaAdvance_vramBlocked (c : Nat) (s : State) : (timaAdvance c s).vramBlocked = s.vramBlocked := by
  unfold timaAdvance; split_ifs
  · exact rounds_proj (·.vramBlocked) (by simp) _ _
  · rfl
@[simp] theorem timaAdvance_oamBlocked (c : Nat) (s : State) : (timaAdvance c s).oamBlocked = s.oamBlocked := by
  unfold timaAdvance; split_ifs
  · exact rounds_proj (·.oamBlocked) (by simp) _ _
  · rfl
@[simp] theorem timaAdvance_serialOut (c : Nat) (s : State) : (timaAdvance c s).serialOut = s.serialOut := by
  unfold timaAdvance; split_ifs
  · exact rounds_proj (·.serialOut) (by simp) _ _
  · rfl
@[simp] theorem timaAdvance_reports (c : Nat) (s : State) : (timaAdvance c s).reports = s.reports := by
  unfold timaAdvance; split_ifs
  · exact rounds_proj (·.reports) (by simp) _ _
  · rfl
@[simp] theorem timaAdvance_platform (c : Nat) (s : State) : (timaAdvance c s).platform = s.platform := by
  unfold timaAdvance; split_ifs
  · exact rounds_proj (·.platform) (by simp) _ _
  · rfl
@[simp] theorem timaAdvance_moves (c : Nat) (s : State) : (timaAdvance c s).moves = s.moves := by
  unfold timaAdvance; split_ifs
  · exact rounds_proj (·.moves) (by simp) _ _
  · rfl
@[simp] theorem account_a (c : Nat) (s : State) : (account c s).a = s.a := by simp [account, timerAdvance]
@[simp] theorem account_f (c : Nat) (s : State) : (account c s).f = s.f := by simp [account, timerAdvance]
@[simp] theorem account_b (c : Nat) (s : State) : (account c s).b = s.b := by simp [account, timerAdvance]
@[simp] theorem account_c (c : Nat) (s : State) : (account c s).c = s.c := by simp [account, timerAdvance]
@[simp] theorem account_d (c : Nat) (s : State) : (account c s).d = s.d := by simp [account, timerAdvance]
@[simp] theorem account_e (c : Nat) (s : State) : (account c s).e = s.e := by simp [account, timerAdvance]
@[simp] theorem account_h (c : Nat) (s : State) : (account c s).h = s.h := by simp [account, timerAdvance]
@[simp] theorem account_l (c : Nat) (s : State) : (account c s).l = s.l := by simp [account, timerAdvance]
@[simp] theorem account_sp (c : Nat) (s : State) : (account c s).sp = s.sp := by simp [account, timerAdvance]
@[simp] theorem account_pc (c : Nat) (s : State) : (account c s).pc = s.pc := by simp [account, timerAdvance]
@[simp] theorem account_ime (c : Nat) (s : State) : (account c s).ime = s.ime := by simp [account, timerAdvance]
@[simp] theorem account_imePending (c : Nat) (s : State) : (account c s).imePending = s.imePending := by simp [account, timerAdvance]
@[simp] theorem account_mode (c : Nat) (s : State) : (account c s).mode = s.mode := by simp [account, timerAdvance]
@[simp] theorem account_overlay (c : Nat) (s : State) : (account c s).overlay = s.overlay := by simp [account, timerAdvance]
@[simp] theorem account_vramBlocked (c : Nat) (s : State) : (account c s).vramBlocked = s.vramBlocked := by simp [account, timerAdvance]
@[simp] theorem account_oamBlocked (c : Nat) (s : State) : (account c s).oamBlocked = s.oamBlocked := by simp [account, timerAdvance]
@[simp] theorem account_serialOut (c : Nat) (s : State) : (account c s).serialOut = s.serialOut := by simp [account, timerAdvance]
@[simp] theorem account_reports (c : Nat) (s : State) : (account c s).reports = s.reports := by simp [account, timerAdvance]
@[simp] theorem account_platform (c : Nat) (s : State) : (account c s).platform = s.platform := by simp [account, timerAdvance]
@[simp] theorem account_moves (c : Nat) (s : State) : (account c s).moves = s.moves := by simp [account, timerAdvance]

@[simp] theorem divAdvance_timaPre (c : Nat) (s : State) : (divAdvance c s).timaPre = s.timaPre :=
  rounds_proj (·.timaPre) (by simp) _ _
@[simp] theorem divAdvance_cycles (c : Nat) (s : State) : (divAdvance c s).cycles = s.cycles :=
  rounds_proj (·.cycles) (by simp) _ _
@[simp] theorem timaAdvance_cycles (c : Nat) (s : State) : (timaAdvance c s).cycles = s.cycles := by
  unfold timaAdvance; split_ifs
  · exact rounds_proj (·.cycles) (by simp) _ _
  · rfl
@[simp] theorem timaAdvance_divPre (c : Nat) (s : State) : (timaAdvance c s).divPre = s.divPre := by
  unfold timaAdvance; split_ifs
  · exact rounds_proj (·.divPre) (by simp) _ _
  · rfl
/-- The accounting part adds the cost to CYCLES (R133). -/
@[simp] theorem account_cycles (c : Nat) (s : State) : (account c s).cycles = s.cycles + c := by
  simp [account, timerAdvance]

/-- Advancing the divider changes no live byte but DIV (R311). -/
theorem divAdvance_live_other (c : Nat) (s : State) {x : Word} (h : x ≠ s.platform.addrDiv) :
    (divAdvance c s).live x = s.live x :=
  (rounds_inv (P := fun t => t.platform = s.platform ∧ t.live x = s.live x)
    (fun t ht => ⟨by simpa using ht.1,
      (State.store_live_other t _ (by simpa [ht.1] using h)).trans ht.2⟩) _ s ⟨rfl, rfl⟩).2

/-- Advancing the timer counter changes no live byte but TIMA and IF (R312). -/
theorem timaAdvance_live_other (c : Nat) (s : State) {x : Word} (h1 : x ≠ s.platform.addrTima)
    (h2 : x ≠ s.platform.addrIf) : (timaAdvance c s).live x = s.live x := by
  unfold timaAdvance
  split_ifs
  · exact (rounds_inv (P := fun t => t.platform = s.platform ∧ t.live x = s.live x)
      (fun t ht => ⟨by simpa using ht.1,
        (timaTick_live_other t (by simpa [ht.1] using h1) (by simpa [ht.1] using h2)).trans ht.2⟩)
      _ s ⟨rfl, rfl⟩).2
  · rfl

/-- The accounting part changes no live byte but DIV, TIMA and IF (R310 to R312). -/
theorem account_live_other (c : Nat) (s : State) {x : Word} (h1 : x ≠ s.platform.addrDiv) (h2 : x ≠ s.platform.addrTima)
    (h3 : x ≠ s.platform.addrIf) : (account c s).live x = s.live x := by
  unfold account timerAdvance
  rw [timaAdvance_live_other c _ (by simpa using h2) (by simpa using h3)]
  exact divAdvance_live_other c _ h1

/-! ### The seven cells together -/

/-- Two states with the same seven cells. -/
theorem State.r8_congr {s t : State} (h : t.a = s.a ∧ t.b = s.b ∧ t.c = s.c ∧ t.d = s.d ∧ t.e = s.e ∧
    t.h = s.h ∧ t.l = s.l) (r : Reg8) : t.r8 r = s.r8 r := by
  obtain ⟨ha, hb, hc, hd, he, hh, hl⟩ := h
  cases r <;> assumption

@[simp] theorem State.takeMoves_r8 (s : State) (r : Reg8) : s.takeMoves.r8 r = s.r8 r :=
  State.r8_congr (by simp) r
@[simp] theorem State.memWrite_r8 (s : State) (x : Word) (v : Byte) (r : Reg8) :
    (s.memWrite x v).r8 r = s.r8 r := State.r8_congr (by simp) r
@[simp] theorem State.busWrite_r8 (s : State) (x : Word) (v : Byte) (r : Reg8) :
    (s.busWrite x v).r8 r = s.r8 r := State.r8_congr (by simp) r
@[simp] theorem State.push16_r8 (s : State) (v : Word) (r : Reg8) : (s.push16 v).r8 r = s.r8 r :=
  State.r8_congr (by simp) r
theorem State.imm8_r8 (s : State) (r : Reg8) : s.imm8.2.r8 r = s.r8 r := State.r8_congr (by simp) r
theorem State.pop16_r8 (s : State) (r : Reg8) : s.pop16.2.r8 r = s.r8 r := State.r8_congr (by simp) r
@[simp] theorem State.withFlags_r8 (s : State) (p : Policy) (x : Flags) (r : Reg8) :
    (s.withFlags p x).r8 r = s.r8 r := State.r8_congr (by simp) r

end Sys2Proof.Machine
end

