-- ==== Sys2Proof/Laws/Platform.lean ====
section
/-!
SUPPORT. What `Platform.wf` says, one lemma for each thing a proof asks of it: the registers lie above
ROM_TOP and no two of them are one, the regions lie above ROM_TOP, and the periods and costs are
positive (92_eei_decisions.md D3, 00_scope.md R6).
-/

namespace Sys2Proof.Machine

open Sys2Proof

/-- Every register lies above ROM_TOP, and no two lie at one address (D3). -/
theorem Platform.wf_registers {p : Platform} (h : p.wf = true) :
    p.registers.Nodup ∧ ∀ a ∈ p.registers, romTop < a := by
  simp only [Platform.wf, Bool.and_eq_true, decide_eq_true_eq, List.all_eq_true] at h
  exact ⟨h.1.1.1.1.1.1.1.1.1.1.1.1, h.1.1.1.1.1.1.1.1.1.1.1.2⟩

/-- Every register lies above ROM_TOP. -/
theorem Platform.wf_above {p : Platform} (h : p.wf = true) {a : Word} (ha : a ∈ p.registers) :
    romTop < a := (Platform.wf_registers h).2 a ha

/-- Registers at different places of the list are different addresses. -/
theorem Platform.wf_ne {p : Platform} (h : p.wf = true) (i j : Fin 10) (hij : i ≠ j) :
    p.registers[i]'(by simp [Platform.registers]) ≠
      p.registers[j]'(by simp [Platform.registers]) := fun e =>
  hij (Fin.ext ((List.Nodup.getElem_inj_iff (Platform.wf_registers h).1).1 e))

/-- No address of the ROM range lies in a region. -/
theorem Platform.wf_rom {p : Platform} (h : p.wf = true) {x : Word} (hx : x ≤ romTop) :
    p.inOam x = false ∧ p.inVram x = false := by
  simp only [Platform.wf, Bool.and_eq_true, decide_eq_true_eq] at h
  have h1 := h.1.1.1.1.1.1.1.1.1.1.2
  have h2 := h.1.1.1.1.1.1.1.1.1.2
  simp only [Platform.inOam, Platform.inVram, Bool.and_eq_false_iff, decide_eq_false_iff_not]
  exact ⟨.inl (by bv_omega), .inl (by bv_omega)⟩

theorem Platform.wf_divPeriod {p : Platform} (h : p.wf = true) : 0 < p.divPeriod := by
  simp only [Platform.wf, Bool.and_eq_true, decide_eq_true_eq] at h
  exact h.1.1.1.2

theorem Platform.wf_dispatchCycles {p : Platform} (h : p.wf = true) : 0 < p.dispatchCycles := by
  simp only [Platform.wf, Bool.and_eq_true, decide_eq_true_eq] at h
  exact h.1.1.2

/-- Every count the platform puts in the place of the table's is positive. -/
theorem Platform.wf_counts {p : Platform} (h : p.wf = true) {k : Nat} {n : Nat × Nat}
    (hk : p.cycleChanges.lookup k = some n) : 0 < n.1 ∧ 0 < n.2 := by
  simp only [Platform.wf, Bool.and_eq_true, decide_eq_true_eq, List.all_eq_true] at h
  have hall := h.2
  clear h
  generalize p.cycleChanges = l at hk hall
  induction l with
  | nil => exact nomatch hk
  | cons c l ih =>
    obtain ⟨c1, c2⟩ := c
    rw [List.lookup_cons] at hk
    split at hk
    · injection hk with hk
      exact hk ▸ hall _ (List.mem_cons_self ..)
    · exact ih hk fun x hx => hall x (List.mem_cons_of_mem _ hx)

/-- The table's count of a row other than the marker's is positive (R370). -/
theorem cost_pos {i : Instr} (h : i ≠ .prefix_cb) (f : Byte) : 0 < cost i f := by
  cases i <;> first | exact Nat.zero_lt_succ _ | exact absurd rfl h |
    (show 0 < ite _ _ _; split <;> decide)

/-- The platform's count of a row other than the marker's is positive. -/
theorem Platform.cost_pos {p : Platform} (h : p.wf = true) {i : Instr} (hi : i ≠ .prefix_cb)
    (f : Byte) : 0 < p.cost i f := by
  unfold Platform.cost Platform.cyclesOf
  split
  · exact Machine.cost_pos hi f
  · rename_i n hn
    have := Platform.wf_counts h hn
    unfold Cycles.withCounts Cycles.count
    split
    · rename_i heq
      split at heq <;> cases heq
      exact this.1
    · rename_i heq
      split at heq <;> cases heq
      split
      · exact this.1
      · exact this.2

/-- The platform's count of an unmapped byte is positive. -/
theorem Platform.unmappedCost_pos {p : Platform} (h : p.wf = true) (op : Byte) :
    0 < p.unmappedCost op := by
  unfold Platform.unmappedCost
  split
  · decide
  · exact (Platform.wf_counts h ‹_›).1

/-- Where the platform changes nothing the cost is the opcode table's. -/
theorem Platform.cost_of_lookup_none {p : Platform} {i : Instr}
    (h : p.cycleChanges.lookup i.tableNumber = none) (f : Byte) : p.cost i f = Machine.cost i f := by
  unfold Platform.cost Platform.cyclesOf
  rw [h]; rfl

end Sys2Proof.Machine
end

