-- ==== Sys2Proof/Laws/Shapes.lean ====
section
/-!
SUPPORT. The shared operations as a type: the 512 rows in some sixty shapes, so that a proof about
every instruction is a case analysis over the shapes and not over the rows.
-/

namespace Sys2Proof.Machine

open Sys2Proof

/-- A shared operation and its operands. -/
inductive Shape where
  | nop
  | ldPair (p : Pair) (n : Word)
  | ldAToBc
  | incPair (p : Pair)
  | incReg (r : Reg8)
  | decReg (r : Reg8)
  | ldImm (rd : Reg8) (n : Byte)
  | rotA (op : RotOp)
  | ldAbsSp (x : Word)
  | addHl (p : Pair)
  | ldAFromBc
  | decPair (p : Pair)
  | stop (n : Byte)
  | ldAToDe
  | jr (e : Byte)
  | ldAFromDe
  | jrCond (cc : Cond) (e : Byte)
  | ldAToHlInc
  | daa
  | ldAFromHlInc
  | cpl
  | ldAToHlDec
  | incHl
  | decHl
  | ldHlImm (n : Byte)
  | scf
  | ldAFromHlDec
  | ccf
  | ldReg (rd rs : Reg8)
  | ldFromHl (rd : Reg8)
  | ldHlReg (rs : Reg8)
  | halt
  | aluReg (op : AluOp) (r : Reg8)
  | aluHl (op : AluOp)
  | retCond (cc : Cond)
  | pop (p : StackPair)
  | jpCond (cc : Cond) (x : Word)
  | jp (x : Word)
  | callCond (cc : Cond) (x : Word)
  | push (p : StackPair)
  | aluImm (op : AluOp) (n : Byte)
  | rst (y : Fin 8)
  | ret
  | prefixCb
  | call (x : Word)
  | unmapped (op : Byte)
  | reti
  | ldhImmFromA (n : Byte)
  | ldhCFromA
  | addSp (e : Byte)
  | jpHl
  | ldAToAbs (x : Word)
  | ldhAFromImm (n : Byte)
  | ldhAFromC
  | di
  | ldHlSp (e : Byte)
  | ldSpHl
  | ldAFromAbs (x : Word)
  | ei
  | rotReg (op : RotOp) (r : Reg8)
  | rotHl (op : RotOp)
  | bitReg (b : Fin 8) (r : Reg8)
  | bitHl (b : Fin 8)
  | resReg (b : Fin 8) (r : Reg8)
  | resHl (b : Fin 8)
  | setReg (b : Fin 8) (r : Reg8)
  | setHlBit (b : Fin 8)
deriving DecidableEq, Repr

/-- The shared operation itself. -/
def Shape.run : Shape → State → State
  | .nop => Machine.nop
  | .ldPair p n => Machine.ldPair p n
  | .ldAToBc => Machine.ldAToBc
  | .incPair p => Machine.incPair p
  | .incReg r => Machine.incReg r
  | .decReg r => Machine.decReg r
  | .ldImm rd n => Machine.ldImm rd n
  | .rotA op => Machine.rotA op
  | .ldAbsSp x => Machine.ldAbsSp x
  | .addHl p => Machine.addHl p
  | .ldAFromBc => Machine.ldAFromBc
  | .decPair p => Machine.decPair p
  | .stop n => Machine.stop n
  | .ldAToDe => Machine.ldAToDe
  | .jr e => Machine.jr e
  | .ldAFromDe => Machine.ldAFromDe
  | .jrCond cc e => Machine.jrCond cc e
  | .ldAToHlInc => Machine.ldAToHlInc
  | .daa => Machine.daa
  | .ldAFromHlInc => Machine.ldAFromHlInc
  | .cpl => Machine.cpl
  | .ldAToHlDec => Machine.ldAToHlDec
  | .incHl => Machine.incHl
  | .decHl => Machine.decHl
  | .ldHlImm n => Machine.ldHlImm n
  | .scf => Machine.scf
  | .ldAFromHlDec => Machine.ldAFromHlDec
  | .ccf => Machine.ccf
  | .ldReg rd rs => Machine.ldReg rd rs
  | .ldFromHl rd => Machine.ldFromHl rd
  | .ldHlReg rs => Machine.ldHlReg rs
  | .halt => Machine.halt
  | .aluReg op r => Machine.aluReg op r
  | .aluHl op => Machine.aluHl op
  | .retCond cc => Machine.retCond cc
  | .pop p => Machine.pop p
  | .jpCond cc x => Machine.jpCond cc x
  | .jp x => Machine.jp x
  | .callCond cc x => Machine.callCond cc x
  | .push p => Machine.push p
  | .aluImm op n => Machine.aluImm op n
  | .rst y => Machine.rst y
  | .ret => Machine.ret
  | .prefixCb => Machine.prefixCb
  | .call x => Machine.call x
  | .unmapped op => Machine.unmapped op
  | .reti => Machine.reti
  | .ldhImmFromA n => Machine.ldhImmFromA n
  | .ldhCFromA => Machine.ldhCFromA
  | .addSp e => Machine.addSp e
  | .jpHl => Machine.jpHl
  | .ldAToAbs x => Machine.ldAToAbs x
  | .ldhAFromImm n => Machine.ldhAFromImm n
  | .ldhAFromC => Machine.ldhAFromC
  | .di => Machine.di
  | .ldHlSp e => Machine.ldHlSp e
  | .ldSpHl => Machine.ldSpHl
  | .ldAFromAbs x => Machine.ldAFromAbs x
  | .ei => Machine.ei
  | .rotReg op r => Machine.rotReg op r
  | .rotHl op => Machine.rotHl op
  | .bitReg b r => Machine.bitReg b r
  | .bitHl b => Machine.bitHl b
  | .resReg b r => Machine.resReg b r
  | .resHl b => Machine.resHl b
  | .setReg b r => Machine.setReg b r
  | .setHlBit b => Machine.setHlBit b

/-- The shape of a row. -/
def shapeOf : Instr → Shape
  | .nop => .nop
  | .ld_bc_n16 n => .ldPair .bc n
  | .ld_mbc_a => .ldAToBc
  | .inc_bc => .incPair .bc
  | .inc_b => .incReg .b
  | .dec_b => .decReg .b
  | .ld_b_n8 n => .ldImm .b n
  | .rlca => .rotA .rlc
  | .ld_ma16_sp a => .ldAbsSp a
  | .add_hl_bc => .addHl .bc
  | .ld_a_mbc => .ldAFromBc
  | .dec_bc => .decPair .bc
  | .inc_c => .incReg .c
  | .dec_c => .decReg .c
  | .ld_c_n8 n => .ldImm .c n
  | .rrca => .rotA .rrc
  | .stop_n8 n => .stop n
  | .ld_de_n16 n => .ldPair .de n
  | .ld_mde_a => .ldAToDe
  | .inc_de => .incPair .de
  | .inc_d => .incReg .d
  | .dec_d => .decReg .d
  | .ld_d_n8 n => .ldImm .d n
  | .rla => .rotA .rl
  | .jr_e8 e => .jr e
  | .add_hl_de => .addHl .de
  | .ld_a_mde => .ldAFromDe
  | .dec_de => .decPair .de
  | .inc_e => .incReg .e
  | .dec_e => .decReg .e
  | .ld_e_n8 n => .ldImm .e n
  | .rra => .rotA .rr
  | .jr_nz_e8 e => .jrCond .nz e
  | .ld_hl_n16 n => .ldPair .hl n
  | .ld_mhli_a => .ldAToHlInc
  | .inc_hl => .incPair .hl
  | .inc_h => .incReg .h
  | .dec_h => .decReg .h
  | .ld_h_n8 n => .ldImm .h n
  | .daa => .daa
  | .jr_z_e8 e => .jrCond .z e
  | .add_hl_hl => .addHl .hl
  | .ld_a_mhli => .ldAFromHlInc
  | .dec_hl => .decPair .hl
  | .inc_l => .incReg .l
  | .dec_l => .decReg .l
  | .ld_l_n8 n => .ldImm .l n
  | .cpl => .cpl
  | .jr_nc_e8 e => .jrCond .nc e
  | .ld_sp_n16 n => .ldPair .sp n
  | .ld_mhld_a => .ldAToHlDec
  | .inc_sp => .incPair .sp
  | .inc_mhl => .incHl
  | .dec_mhl => .decHl
  | .ld_mhl_n8 n => .ldHlImm n
  | .scf => .scf
  | .jr_c_e8 e => .jrCond .c e
  | .add_hl_sp => .addHl .sp
  | .ld_a_mhld => .ldAFromHlDec
  | .dec_sp => .decPair .sp
  | .inc_a => .incReg .a
  | .dec_a => .decReg .a
  | .ld_a_n8 n => .ldImm .a n
  | .ccf => .ccf
  | .ld_b_b => .ldReg .b .b
  | .ld_b_c => .ldReg .b .c
  | .ld_b_d => .ldReg .b .d
  | .ld_b_e => .ldReg .b .e
  | .ld_b_h => .ldReg .b .h
  | .ld_b_l => .ldReg .b .l
  | .ld_b_mhl => .ldFromHl .b
  | .ld_b_a => .ldReg .b .a
  | .ld_c_b => .ldReg .c .b
  | .ld_c_c => .ldReg .c .c
  | .ld_c_d => .ldReg .c .d
  | .ld_c_e => .ldReg .c .e
  | .ld_c_h => .ldReg .c .h
  | .ld_c_l => .ldReg .c .l
  | .ld_c_mhl => .ldFromHl .c
  | .ld_c_a => .ldReg .c .a
  | .ld_d_b => .ldReg .d .b
  | .ld_d_c => .ldReg .d .c
  | .ld_d_d => .ldReg .d .d
  | .ld_d_e => .ldReg .d .e
  | .ld_d_h => .ldReg .d .h
  | .ld_d_l => .ldReg .d .l
  | .ld_d_mhl => .ldFromHl .d
  | .ld_d_a => .ldReg .d .a
  | .ld_e_b => .ldReg .e .b
  | .ld_e_c => .ldReg .e .c
  | .ld_e_d => .ldReg .e .d
  | .ld_e_e => .ldReg .e .e
  | .ld_e_h => .ldReg .e .h
  | .ld_e_l => .ldReg .e .l
  | .ld_e_mhl => .ldFromHl .e
  | .ld_e_a => .ldReg .e .a
  | .ld_h_b => .ldReg .h .b
  | .ld_h_c => .ldReg .h .c
  | .ld_h_d => .ldReg .h .d
  | .ld_h_e => .ldReg .h .e
  | .ld_h_h => .ldReg .h .h
  | .ld_h_l => .ldReg .h .l
  | .ld_h_mhl => .ldFromHl .h
  | .ld_h_a => .ldReg .h .a
  | .ld_l_b => .ldReg .l .b
  | .ld_l_c => .ldReg .l .c
  | .ld_l_d => .ldReg .l .d
  | .ld_l_e => .ldReg .l .e
  | .ld_l_h => .ldReg .l .h
  | .ld_l_l => .ldReg .l .l
  | .ld_l_mhl => .ldFromHl .l
  | .ld_l_a => .ldReg .l .a
  | .ld_mhl_b => .ldHlReg .b
  | .ld_mhl_c => .ldHlReg .c
  | .ld_mhl_d => .ldHlReg .d
  | .ld_mhl_e => .ldHlReg .e
  | .ld_mhl_h => .ldHlReg .h
  | .ld_mhl_l => .ldHlReg .l
  | .halt => .halt
  | .ld_mhl_a => .ldHlReg .a
  | .ld_a_b => .ldReg .a .b
  | .ld_a_c => .ldReg .a .c
  | .ld_a_d => .ldReg .a .d
  | .ld_a_e => .ldReg .a .e
  | .ld_a_h => .ldReg .a .h
  | .ld_a_l => .ldReg .a .l
  | .ld_a_mhl => .ldFromHl .a
  | .ld_a_a => .ldReg .a .a
  | .add_a_b => .aluReg .add .b
  | .add_a_c => .aluReg .add .c
  | .add_a_d => .aluReg .add .d
  | .add_a_e => .aluReg .add .e
  | .add_a_h => .aluReg .add .h
  | .add_a_l => .aluReg .add .l
  | .add_a_mhl => .aluHl .add
  | .add_a_a => .aluReg .add .a
  | .adc_a_b => .aluReg .adc .b
  | .adc_a_c => .aluReg .adc .c
  | .adc_a_d => .aluReg .adc .d
  | .adc_a_e => .aluReg .adc .e
  | .adc_a_h => .aluReg .adc .h
  | .adc_a_l => .aluReg .adc .l
  | .adc_a_mhl => .aluHl .adc
  | .adc_a_a => .aluReg .adc .a
  | .sub_a_b => .aluReg .sub .b
  | .sub_a_c => .aluReg .sub .c
  | .sub_a_d => .aluReg .sub .d
  | .sub_a_e => .aluReg .sub .e
  | .sub_a_h => .aluReg .sub .h
  | .sub_a_l => .aluReg .sub .l
  | .sub_a_mhl => .aluHl .sub
  | .sub_a_a => .aluReg .sub .a
  | .sbc_a_b => .aluReg .sbc .b
  | .sbc_a_c => .aluReg .sbc .c
  | .sbc_a_d => .aluReg .sbc .d
  | .sbc_a_e => .aluReg .sbc .e
  | .sbc_a_h => .aluReg .sbc .h
  | .sbc_a_l => .aluReg .sbc .l
  | .sbc_a_mhl => .aluHl .sbc
  | .sbc_a_a => .aluReg .sbc .a
  | .and_a_b => .aluReg .and .b
  | .and_a_c => .aluReg .and .c
  | .and_a_d => .aluReg .and .d
  | .and_a_e => .aluReg .and .e
  | .and_a_h => .aluReg .and .h
  | .and_a_l => .aluReg .and .l
  | .and_a_mhl => .aluHl .and
  | .and_a_a => .aluReg .and .a
  | .xor_a_b => .aluReg .xor .b
  | .xor_a_c => .aluReg .xor .c
  | .xor_a_d => .aluReg .xor .d
  | .xor_a_e => .aluReg .xor .e
  | .xor_a_h => .aluReg .xor .h
  | .xor_a_l => .aluReg .xor .l
  | .xor_a_mhl => .aluHl .xor
  | .xor_a_a => .aluReg .xor .a
  | .or_a_b => .aluReg .or .b
  | .or_a_c => .aluReg .or .c
  | .or_a_d => .aluReg .or .d
  | .or_a_e => .aluReg .or .e
  | .or_a_h => .aluReg .or .h
  | .or_a_l => .aluReg .or .l
  | .or_a_mhl => .aluHl .or
  | .or_a_a => .aluReg .or .a
  | .cp_a_b => .aluReg .cp .b
  | .cp_a_c => .aluReg .cp .c
  | .cp_a_d => .aluReg .cp .d
  | .cp_a_e => .aluReg .cp .e
  | .cp_a_h => .aluReg .cp .h
  | .cp_a_l => .aluReg .cp .l
  | .cp_a_mhl => .aluHl .cp
  | .cp_a_a => .aluReg .cp .a
  | .ret_nz => .retCond .nz
  | .pop_bc => .pop .bc
  | .jp_nz_a16 a => .jpCond .nz a
  | .jp_a16 a => .jp a
  | .call_nz_a16 a => .callCond .nz a
  | .push_bc => .push .bc
  | .add_a_n8 n => .aluImm .add n
  | .rst_00 => .rst 0
  | .ret_z => .retCond .z
  | .ret => .ret
  | .jp_z_a16 a => .jpCond .z a
  | .prefix_cb => .prefixCb
  | .call_z_a16 a => .callCond .z a
  | .call_a16 a => .call a
  | .adc_a_n8 n => .aluImm .adc n
  | .rst_08 => .rst 1
  | .ret_nc => .retCond .nc
  | .pop_de => .pop .de
  | .jp_nc_a16 a => .jpCond .nc a
  | .illegal_d3 => .unmapped 0xD3
  | .call_nc_a16 a => .callCond .nc a
  | .push_de => .push .de
  | .sub_a_n8 n => .aluImm .sub n
  | .rst_10 => .rst 2
  | .ret_c => .retCond .c
  | .reti => .reti
  | .jp_c_a16 a => .jpCond .c a
  | .illegal_db => .unmapped 0xDB
  | .call_c_a16 a => .callCond .c a
  | .illegal_dd => .unmapped 0xDD
  | .sbc_a_n8 n => .aluImm .sbc n
  | .rst_18 => .rst 3
  | .ldh_ma8_a n => .ldhImmFromA n
  | .pop_hl => .pop .hl
  | .ldh_mc_a => .ldhCFromA
  | .illegal_e3 => .unmapped 0xE3
  | .illegal_e4 => .unmapped 0xE4
  | .push_hl => .push .hl
  | .and_a_n8 n => .aluImm .and n
  | .rst_20 => .rst 4
  | .add_sp_e8 e => .addSp e
  | .jp_hl => .jpHl
  | .ld_ma16_a a => .ldAToAbs a
  | .illegal_eb => .unmapped 0xEB
  | .illegal_ec => .unmapped 0xEC
  | .illegal_ed => .unmapped 0xED
  | .xor_a_n8 n => .aluImm .xor n
  | .rst_28 => .rst 5
  | .ldh_a_ma8 n => .ldhAFromImm n
  | .pop_af => .pop .af
  | .ldh_a_mc => .ldhAFromC
  | .di => .di
  | .illegal_f4 => .unmapped 0xF4
  | .push_af => .push .af
  | .or_a_n8 n => .aluImm .or n
  | .rst_30 => .rst 6
  | .ld_hl_sp_e8 e => .ldHlSp e
  | .ld_sp_hl => .ldSpHl
  | .ld_a_ma16 a => .ldAFromAbs a
  | .ei => .ei
  | .illegal_fc => .unmapped 0xFC
  | .illegal_fd => .unmapped 0xFD
  | .cp_a_n8 n => .aluImm .cp n
  | .rst_38 => .rst 7
  | .rlc_b => .rotReg .rlc .b
  | .rlc_c => .rotReg .rlc .c
  | .rlc_d => .rotReg .rlc .d
  | .rlc_e => .rotReg .rlc .e
  | .rlc_h => .rotReg .rlc .h
  | .rlc_l => .rotReg .rlc .l
  | .rlc_mhl => .rotHl .rlc
  | .rlc_a => .rotReg .rlc .a
  | .rrc_b => .rotReg .rrc .b
  | .rrc_c => .rotReg .rrc .c
  | .rrc_d => .rotReg .rrc .d
  | .rrc_e => .rotReg .rrc .e
  | .rrc_h => .rotReg .rrc .h
  | .rrc_l => .rotReg .rrc .l
  | .rrc_mhl => .rotHl .rrc
  | .rrc_a => .rotReg .rrc .a
  | .rl_b => .rotReg .rl .b
  | .rl_c => .rotReg .rl .c
  | .rl_d => .rotReg .rl .d
  | .rl_e => .rotReg .rl .e
  | .rl_h => .rotReg .rl .h
  | .rl_l => .rotReg .rl .l
  | .rl_mhl => .rotHl .rl
  | .rl_a => .rotReg .rl .a
  | .rr_b => .rotReg .rr .b
  | .rr_c => .rotReg .rr .c
  | .rr_d => .rotReg .rr .d
  | .rr_e => .rotReg .rr .e
  | .rr_h => .rotReg .rr .h
  | .rr_l => .rotReg .rr .l
  | .rr_mhl => .rotHl .rr
  | .rr_a => .rotReg .rr .a
  | .sla_b => .rotReg .sla .b
  | .sla_c => .rotReg .sla .c
  | .sla_d => .rotReg .sla .d
  | .sla_e => .rotReg .sla .e
  | .sla_h => .rotReg .sla .h
  | .sla_l => .rotReg .sla .l
  | .sla_mhl => .rotHl .sla
  | .sla_a => .rotReg .sla .a
  | .sra_b => .rotReg .sra .b
  | .sra_c => .rotReg .sra .c
  | .sra_d => .rotReg .sra .d
  | .sra_e => .rotReg .sra .e
  | .sra_h => .rotReg .sra .h
  | .sra_l => .rotReg .sra .l
  | .sra_mhl => .rotHl .sra
  | .sra_a => .rotReg .sra .a
  | .swap_b => .rotReg .swap .b
  | .swap_c => .rotReg .swap .c
  | .swap_d => .rotReg .swap .d
  | .swap_e => .rotReg .swap .e
  | .swap_h => .rotReg .swap .h
  | .swap_l => .rotReg .swap .l
  | .swap_mhl => .rotHl .swap
  | .swap_a => .rotReg .swap .a
  | .srl_b => .rotReg .srl .b
  | .srl_c => .rotReg .srl .c
  | .srl_d => .rotReg .srl .d
  | .srl_e => .rotReg .srl .e
  | .srl_h => .rotReg .srl .h
  | .srl_l => .rotReg .srl .l
  | .srl_mhl => .rotHl .srl
  | .srl_a => .rotReg .srl .a
  | .bit_0_b => .bitReg 0 .b
  | .bit_0_c => .bitReg 0 .c
  | .bit_0_d => .bitReg 0 .d
  | .bit_0_e => .bitReg 0 .e
  | .bit_0_h => .bitReg 0 .h
  | .bit_0_l => .bitReg 0 .l
  | .bit_0_mhl => .bitHl 0
  | .bit_0_a => .bitReg 0 .a
  | .bit_1_b => .bitReg 1 .b
  | .bit_1_c => .bitReg 1 .c
  | .bit_1_d => .bitReg 1 .d
  | .bit_1_e => .bitReg 1 .e
  | .bit_1_h => .bitReg 1 .h
  | .bit_1_l => .bitReg 1 .l
  | .bit_1_mhl => .bitHl 1
  | .bit_1_a => .bitReg 1 .a
  | .bit_2_b => .bitReg 2 .b
  | .bit_2_c => .bitReg 2 .c
  | .bit_2_d => .bitReg 2 .d
  | .bit_2_e => .bitReg 2 .e
  | .bit_2_h => .bitReg 2 .h
  | .bit_2_l => .bitReg 2 .l
  | .bit_2_mhl => .bitHl 2
  | .bit_2_a => .bitReg 2 .a
  | .bit_3_b => .bitReg 3 .b
  | .bit_3_c => .bitReg 3 .c
  | .bit_3_d => .bitReg 3 .d
  | .bit_3_e => .bitReg 3 .e
  | .bit_3_h => .bitReg 3 .h
  | .bit_3_l => .bitReg 3 .l
  | .bit_3_mhl => .bitHl 3
  | .bit_3_a => .bitReg 3 .a
  | .bit_4_b => .bitReg 4 .b
  | .bit_4_c => .bitReg 4 .c
  | .bit_4_d => .bitReg 4 .d
  | .bit_4_e => .bitReg 4 .e
  | .bit_4_h => .bitReg 4 .h
  | .bit_4_l => .bitReg 4 .l
  | .bit_4_mhl => .bitHl 4
  | .bit_4_a => .bitReg 4 .a
  | .bit_5_b => .bitReg 5 .b
  | .bit_5_c => .bitReg 5 .c
  | .bit_5_d => .bitReg 5 .d
  | .bit_5_e => .bitReg 5 .e
  | .bit_5_h => .bitReg 5 .h
  | .bit_5_l => .bitReg 5 .l
  | .bit_5_mhl => .bitHl 5
  | .bit_5_a => .bitReg 5 .a
  | .bit_6_b => .bitReg 6 .b
  | .bit_6_c => .bitReg 6 .c
  | .bit_6_d => .bitReg 6 .d
  | .bit_6_e => .bitReg 6 .e
  | .bit_6_h => .bitReg 6 .h
  | .bit_6_l => .bitReg 6 .l
  | .bit_6_mhl => .bitHl 6
  | .bit_6_a => .bitReg 6 .a
  | .bit_7_b => .bitReg 7 .b
  | .bit_7_c => .bitReg 7 .c
  | .bit_7_d => .bitReg 7 .d
  | .bit_7_e => .bitReg 7 .e
  | .bit_7_h => .bitReg 7 .h
  | .bit_7_l => .bitReg 7 .l
  | .bit_7_mhl => .bitHl 7
  | .bit_7_a => .bitReg 7 .a
  | .res_0_b => .resReg 0 .b
  | .res_0_c => .resReg 0 .c
  | .res_0_d => .resReg 0 .d
  | .res_0_e => .resReg 0 .e
  | .res_0_h => .resReg 0 .h
  | .res_0_l => .resReg 0 .l
  | .res_0_mhl => .resHl 0
  | .res_0_a => .resReg 0 .a
  | .res_1_b => .resReg 1 .b
  | .res_1_c => .resReg 1 .c
  | .res_1_d => .resReg 1 .d
  | .res_1_e => .resReg 1 .e
  | .res_1_h => .resReg 1 .h
  | .res_1_l => .resReg 1 .l
  | .res_1_mhl => .resHl 1
  | .res_1_a => .resReg 1 .a
  | .res_2_b => .resReg 2 .b
  | .res_2_c => .resReg 2 .c
  | .res_2_d => .resReg 2 .d
  | .res_2_e => .resReg 2 .e
  | .res_2_h => .resReg 2 .h
  | .res_2_l => .resReg 2 .l
  | .res_2_mhl => .resHl 2
  | .res_2_a => .resReg 2 .a
  | .res_3_b => .resReg 3 .b
  | .res_3_c => .resReg 3 .c
  | .res_3_d => .resReg 3 .d
  | .res_3_e => .resReg 3 .e
  | .res_3_h => .resReg 3 .h
  | .res_3_l => .resReg 3 .l
  | .res_3_mhl => .resHl 3
  | .res_3_a => .resReg 3 .a
  | .res_4_b => .resReg 4 .b
  | .res_4_c => .resReg 4 .c
  | .res_4_d => .resReg 4 .d
  | .res_4_e => .resReg 4 .e
  | .res_4_h => .resReg 4 .h
  | .res_4_l => .resReg 4 .l
  | .res_4_mhl => .resHl 4
  | .res_4_a => .resReg 4 .a
  | .res_5_b => .resReg 5 .b
  | .res_5_c => .resReg 5 .c
  | .res_5_d => .resReg 5 .d
  | .res_5_e => .resReg 5 .e
  | .res_5_h => .resReg 5 .h
  | .res_5_l => .resReg 5 .l
  | .res_5_mhl => .resHl 5
  | .res_5_a => .resReg 5 .a
  | .res_6_b => .resReg 6 .b
  | .res_6_c => .resReg 6 .c
  | .res_6_d => .resReg 6 .d
  | .res_6_e => .resReg 6 .e
  | .res_6_h => .resReg 6 .h
  | .res_6_l => .resReg 6 .l
  | .res_6_mhl => .resHl 6
  | .res_6_a => .resReg 6 .a
  | .res_7_b => .resReg 7 .b
  | .res_7_c => .resReg 7 .c
  | .res_7_d => .resReg 7 .d
  | .res_7_e => .resReg 7 .e
  | .res_7_h => .resReg 7 .h
  | .res_7_l => .resReg 7 .l
  | .res_7_mhl => .resHl 7
  | .res_7_a => .resReg 7 .a
  | .set_0_b => .setReg 0 .b
  | .set_0_c => .setReg 0 .c
  | .set_0_d => .setReg 0 .d
  | .set_0_e => .setReg 0 .e
  | .set_0_h => .setReg 0 .h
  | .set_0_l => .setReg 0 .l
  | .set_0_mhl => .setHlBit 0
  | .set_0_a => .setReg 0 .a
  | .set_1_b => .setReg 1 .b
  | .set_1_c => .setReg 1 .c
  | .set_1_d => .setReg 1 .d
  | .set_1_e => .setReg 1 .e
  | .set_1_h => .setReg 1 .h
  | .set_1_l => .setReg 1 .l
  | .set_1_mhl => .setHlBit 1
  | .set_1_a => .setReg 1 .a
  | .set_2_b => .setReg 2 .b
  | .set_2_c => .setReg 2 .c
  | .set_2_d => .setReg 2 .d
  | .set_2_e => .setReg 2 .e
  | .set_2_h => .setReg 2 .h
  | .set_2_l => .setReg 2 .l
  | .set_2_mhl => .setHlBit 2
  | .set_2_a => .setReg 2 .a
  | .set_3_b => .setReg 3 .b
  | .set_3_c => .setReg 3 .c
  | .set_3_d => .setReg 3 .d
  | .set_3_e => .setReg 3 .e
  | .set_3_h => .setReg 3 .h
  | .set_3_l => .setReg 3 .l
  | .set_3_mhl => .setHlBit 3
  | .set_3_a => .setReg 3 .a
  | .set_4_b => .setReg 4 .b
  | .set_4_c => .setReg 4 .c
  | .set_4_d => .setReg 4 .d
  | .set_4_e => .setReg 4 .e
  | .set_4_h => .setReg 4 .h
  | .set_4_l => .setReg 4 .l
  | .set_4_mhl => .setHlBit 4
  | .set_4_a => .setReg 4 .a
  | .set_5_b => .setReg 5 .b
  | .set_5_c => .setReg 5 .c
  | .set_5_d => .setReg 5 .d
  | .set_5_e => .setReg 5 .e
  | .set_5_h => .setReg 5 .h
  | .set_5_l => .setReg 5 .l
  | .set_5_mhl => .setHlBit 5
  | .set_5_a => .setReg 5 .a
  | .set_6_b => .setReg 6 .b
  | .set_6_c => .setReg 6 .c
  | .set_6_d => .setReg 6 .d
  | .set_6_e => .setReg 6 .e
  | .set_6_h => .setReg 6 .h
  | .set_6_l => .setReg 6 .l
  | .set_6_mhl => .setHlBit 6
  | .set_6_a => .setReg 6 .a
  | .set_7_b => .setReg 7 .b
  | .set_7_c => .setReg 7 .c
  | .set_7_d => .setReg 7 .d
  | .set_7_e => .setReg 7 .e
  | .set_7_h => .setReg 7 .h
  | .set_7_l => .setReg 7 .l
  | .set_7_mhl => .setHlBit 7
  | .set_7_a => .setReg 7 .a

/-- Every meaning answers a next state, that of its shape (R136, R300). -/
theorem exec_eq_shape (i : Instr) (s : State) : exec i s = .next ((shapeOf i).run s) := by
  cases i <;> rfl


/-! ### The marker (R285) -/

/-- The prefixed row a second byte selects is an instruction (R113). -/
theorem prefixedEntry_wellFormed (b : Byte) : (prefixedEntry b).WellFormed := by
  have h : ∀ n : Fin 256, (prefixedEntry (BitVec.ofFin n)).WellFormed := by decide +kernel
  exact h b.toFin

/-- The prefixed row runs what the marker would run (R113, R285). -/
theorem exec_prefixedEntry (op2 : Byte) (s : State) :
    exec (prefixedEntry op2) s = .next (runPrefixed op2 s) := by
  have h : op2 = BitVec.ofNat 8 op2.toNat := by simp
  have hn := op2.isLt
  rw [h]
  generalize op2.toNat = n at hn
  change n < 256 at hn
  interval_cases n <;> rfl

/-- The marker reads its second byte and runs that row (R285). -/
theorem exec_marker (s : State) : exec .prefix_cb s = exec (prefixedEntry s.imm8.1) s.imm8.2 :=
  (exec_prefixedEntry _ _).symm

theorem effective_of_wellFormed {i : Instr} (h : i.WellFormed) (s : State) : effective i s = i := by
  cases i
  case prefix_cb => exact nomatch h
  all_goals rfl

theorem shapeOf_ne_prefixCb {i : Instr} (h : i.WellFormed) : shapeOf i ≠ .prefixCb := by
  cases i
  case prefix_cb => exact nomatch h
  all_goals exact nofun

/-- A relation between an instruction, the state before and the state after holds if it holds for the
shapes and carries over from the prefixed row to the marker. -/
theorem exec_cases {P : Instr → State → State → Prop}
    (hp : ∀ i s, i.WellFormed → P i s ((shapeOf i).run s))
    (hm : ∀ s t, P (prefixedEntry s.imm8.1) s.imm8.2 t → P .prefix_cb s t)
    {i : Instr} {s t : State} (h : exec i s = .next t) : P i s t := by
  by_cases hi : i.WellFormed
  · rw [exec_eq_shape] at h
    injection h with h
    exact h ▸ hp i s hi
  · have hi : i = .prefix_cb := by
      cases i
      case prefix_cb => rfl
      all_goals exact absurd rfl hi
    subst hi
    rw [exec_marker, exec_eq_shape] at h
    injection h with h
    exact hm s t (h ▸ hp _ _ (prefixedEntry_wellFormed _))

/-! ### What an instruction can do

Every meaning is made of three kinds of change: interleaving points, stores through the write
contract at the addresses `storedTo` names, and changes of the cells and latches that neither memory
nor the platform holds. A property all three keep is kept by every instruction. -/

/-- The two states differ in the registers, F, SP, PC, IME, `IME_PENDING`, MODE and `REPORTS` alone;
the low nibble of F is as it was or 0 (R22, R134, R169), and reports are only added (R47). -/
structure CellsOnly (s t : State) : Prop where
  same : t = { s with
    a := t.a, f := t.f, b := t.b, c := t.c, d := t.d, e := t.e, h := t.h, l := t.l, sp := t.sp
    pc := t.pc, ime := t.ime, imePending := t.imePending, mode := t.mode, reports := t.reports }
  nibble : t.f &&& 0x0F = s.f &&& 0x0F ∨ t.f &&& 0x0F = 0
  reports : s.reports <+: t.reports

/-- The addresses a shape stores to, from the state it runs in. -/
def Shape.stores (s : State) : Shape → List Word
  | .ldAToBc => [s.bc]
  | .ldAToDe => [s.de]
  | .ldAbsSp x => [x, x + 1]
  | .ldAToHlInc | .ldAToHlDec | .incHl | .decHl | .ldHlImm _ | .ldHlReg _ | .rotHl _ | .resHl _ |
    .setHlBit _ => [s.hl]
  | .callCond cc _ => if condHolds cc s.f then [s.sp - 2, s.sp - 1] else []
  | .push _ | .rst _ | .call _ => [s.sp - 2, s.sp - 1]
  | .ldhImmFromA n => [highPage n]
  | .ldhCFromA => [highPage s.c]
  | .ldAToAbs x => [x]
  | _ => []

theorem rowStores_eq_shape (i : Instr) (s : State) : rowStores i s = (shapeOf i).stores s := by
  cases i <;> rfl

theorem storedTo_of_wellFormed {i : Instr} (h : i.WellFormed) (s : State) :
    storedTo i s = (shapeOf i).stores s := by
  rw [storedTo, effective_of_wellFormed h, rowStores_eq_shape]

/-- `t` comes from `s` by the three kinds of change, the stores at addresses of `l` only. -/
inductive Reaches (l : List Word) (s : State) : State → Prop where
  | refl : Reaches l s s
  | moves {t : State} : Reaches l s t → Reaches l s t.takeMoves
  | write {t : State} (x : Word) (v : Byte) : x ∈ l → Reaches l s t → Reaches l s (t.memWrite x v)
  | cells {t u : State} : Reaches l s t → CellsOnly t u → Reaches l s u

theorem Reaches.trans {l : List Word} {s t u : State} (h1 : Reaches l s t) (h2 : Reaches l t u) :
    Reaches l s u := by
  induction h2 with
  | refl => exact h1
  | moves _ ih => exact ih.moves
  | write x v hx _ ih => exact ih.write x v hx
  | cells _ hc ih => exact ih.cells hc

/-- A property the three kinds of change keep. -/
theorem Reaches.preserves {P : State → Prop} {l : List Word} {s t : State} (h : Reaches l s t)
    (hm : ∀ u, P u → P u.takeMoves) (hw : ∀ u x v, x ∈ l → P u → P (u.memWrite x v))
    (hc : ∀ u w, P u → CellsOnly u w → P w) (hs : P s) : P t := by
  induction h with
  | refl => exact hs
  | moves _ ih => exact hm _ ih
  | write x v hx _ ih => exact hw _ x v hx ih
  | cells _ hcell ih => exact hc _ _ ih hcell

/-- Flag application keeps the low nibble of F (R134). -/
theorem packFlags_nibble (x : Flags) (f : Byte) : packFlags x f &&& 0x0F = f &&& 0x0F := by
  apply BitVec.eq_of_getLsbD_eq
  intro i hi
  have h : ∀ j, j < 4 → (packFlags x f).getLsbD j = f.getLsbD j := by
    intro j hj
    unfold packFlags
    rw [BitVec.getLsbD_append, if_pos hj, BitVec.getLsbD_extractLsb']
    simp [hj]
  rw [BitVec.getLsbD_and, BitVec.getLsbD_and]
  by_cases h4 : i < 4
  · rw [h i h4]
  · have h0 : (0x0F : Byte).getLsbD i = false := by
      interval_cases i <;> rfl
    rw [h0, Bool.and_false, Bool.and_false]

theorem CellsOnly.of_setR8 (s : State) (r : Reg8) (v : Byte) : CellsOnly s (s.setR8 r v) := by
  cases r <;> exact ⟨rfl, .inl rfl, List.prefix_rfl⟩

theorem CellsOnly.of_setR16 (s : State) (p : Pair) (v : Word) : CellsOnly s (s.setR16 p v) := by
  cases p <;> exact ⟨rfl, .inl rfl, List.prefix_rfl⟩

theorem CellsOnly.of_withFlags (s : State) (p : Policy) (x : Flags) :
    CellsOnly s (s.withFlags p x) :=
  ⟨rfl, .inl (packFlags_nibble _ _), List.prefix_rfl⟩

theorem CellsOnly.of_setStack16 (s : State) (p : StackPair) (v : Word) :
    CellsOnly s (s.setStack16 p v) := by
  cases p
  case af =>
    refine ⟨rfl, .inr ?_, List.prefix_rfl⟩
    show loByte v &&& 0xF0 &&& 0x0F = 0
    rw [BitVec.and_assoc]
    exact BitVec.and_zero
  all_goals exact ⟨rfl, .inl rfl, List.prefix_rfl⟩

theorem Reaches.busRead {l : List Word} {s t : State} (h : Reaches l s t) (x : Word) :
    Reaches l s (t.busRead x).2 := h.moves

theorem Reaches.busWrite {l : List Word} {s t : State} (h : Reaches l s t) (x : Word) (v : Byte)
    (hx : x ∈ l) : Reaches l s (t.busWrite x v) := h.moves.write x v hx

theorem Reaches.push16 {l : List Word} {s t : State} (h : Reaches l s t) (v : Word)
    (h1 : t.sp - 2 ∈ l) (h2 : t.sp - 1 ∈ l) : Reaches l s (t.push16 v) := by
  refine ((h.cells (u := { t with sp := t.sp - 2 }) ⟨rfl, .inl rfl, List.prefix_rfl⟩).busWrite
    _ _ h1).busWrite _ _ ?_
  have e : t.sp - 2 + 1 = t.sp - 1 := by bv_omega
  exact e ▸ h2

theorem Reaches.pop16 {l : List Word} {s t : State} (h : Reaches l s t) : Reaches l s t.pop16.2 :=
  h.moves.moves.cells ⟨rfl, .inl rfl, List.prefix_rfl⟩

theorem Reaches.imm8 {l : List Word} {s t : State} (h : Reaches l s t) : Reaches l s t.imm8.2 :=
  h.moves.cells ⟨rfl, .inl rfl, List.prefix_rfl⟩

theorem Reaches.setR8 {l : List Word} {s t : State} (h : Reaches l s t) (r : Reg8) (v : Byte) :
    Reaches l s (t.setR8 r v) := h.cells (.of_setR8 t r v)

theorem Reaches.setR16 {l : List Word} {s t : State} (h : Reaches l s t) (p : Pair) (v : Word) :
    Reaches l s (t.setR16 p v) := h.cells (.of_setR16 t p v)

theorem Reaches.withFlags {l : List Word} {s t : State} (h : Reaches l s t) (p : Policy) (x : Flags) :
    Reaches l s (t.withFlags p x) := h.cells (.of_withFlags t p x)

/-- What every shape but the marker's is made of. -/
theorem Shape.reaches (sh : Shape) (hs : sh ≠ .prefixCb) (s : State) :
    Reaches (sh.stores s) s (sh.run s) := by
  have r : ∀ l, Reaches l s s := fun l => .refl
  have snd : ∀ {x y : Word}, y ∈ [x, y] := List.mem_cons_of_mem _ List.mem_cons_self
  have aluA : ∀ {l} {t : State} (op : AluOp) (y : Byte), Reaches l s t →
      Reaches l s (Machine.aluA op y t) := fun op y h => (h.setR8 .a _).withFlags _ _
  have load : ∀ {l} (rd : Reg8) (x : Word), Reaches l s (loadFrom rd x s) := fun rd x =>
    ((r _).busRead x).setR8 _ _
  cases sh with
  | nop => exact r _
  | ldPair p n => exact (r _).setR16 _ _
  | ldAToBc | ldAToDe | ldHlImm | ldHlReg | ldhImmFromA | ldhCFromA | ldAToAbs =>
    exact (r _).busWrite _ _ (List.mem_singleton.2 rfl)
  | incPair p | decPair p => exact (r _).setR16 _ _
  | incReg q | decReg q => exact ((r _).setR8 _ _).withFlags _ _
  | ldImm | ldReg | resReg | setReg => exact (r _).setR8 _ _
  | rotA op => exact ((r _).setR8 .a _).withFlags _ _
  | ldAbsSp x => exact ((r _).busWrite _ _ List.mem_cons_self).busWrite _ _ snd
  | addHl p => exact ((r _).setR16 .hl _).withFlags _ _
  | ldAFromBc => exact load .a s.bc
  | ldAFromDe => exact load .a s.de
  | ldFromHl rd => exact load rd s.hl
  | ldhAFromImm n => exact load .a (highPage n)
  | ldhAFromC => exact load .a (highPage s.c)
  | ldAFromAbs x => exact load .a x
  | stop | jr | halt | jp | jpHl | di | ei | ldSpHl => exact (r _).cells ⟨rfl, .inl rfl, List.prefix_rfl⟩
  | jrCond cc e =>
    simp only [Shape.run, Machine.jrCond]
    split
    · exact (r _).cells ⟨rfl, .inl rfl, List.prefix_rfl⟩
    · exact r _
  | jpCond cc x =>
    simp only [Shape.run, Machine.jpCond]
    split
    · exact (r _).cells ⟨rfl, .inl rfl, List.prefix_rfl⟩
    · exact r _
  | callCond cc x =>
    show Reaches (if condHolds cc s.f then [s.sp - 2, s.sp - 1] else []) s
      (if condHolds cc s.f then Machine.call x s else s)
    cases condHolds cc s.f
    · exact r _
    · exact ((r _).push16 _ List.mem_cons_self snd).cells ⟨rfl, .inl rfl, List.prefix_rfl⟩
  | retCond cc =>
    simp only [Shape.run, Machine.retCond]
    split
    · exact (r _).pop16.cells ⟨rfl, .inl rfl, List.prefix_rfl⟩
    · exact r _
  | ldAToHlInc | ldAToHlDec => exact ((r _).busWrite _ _ (List.mem_singleton.2 rfl)).setR16 .hl _
  | ldAFromHlInc | ldAFromHlDec => exact (load _ _).setR16 .hl _
  | daa | cpl => exact ((r _).setR8 .a _).withFlags _ _
  | scf | ccf | bitReg => exact (r _).withFlags _ _
  | incHl | decHl | rotHl =>
    exact (((r _).busRead _).busWrite _ _ (List.mem_singleton.2 rfl)).withFlags _ _
  | aluReg op q => exact aluA op _ (r _)
  | aluImm op n => exact aluA op _ (r _)
  | aluHl op => exact aluA op _ ((r _).busRead _)
  | pop p => exact (r _).pop16.cells (.of_setStack16 _ _ _)
  | push p => exact (r _).push16 _ List.mem_cons_self snd
  | rst | call =>
    exact ((r _).push16 _ List.mem_cons_self snd).cells ⟨rfl, .inl rfl, List.prefix_rfl⟩
  | ret | reti => exact (r _).pop16.cells ⟨rfl, .inl rfl, List.prefix_rfl⟩
  | prefixCb => exact absurd rfl hs
  | unmapped op => exact (r _).cells ⟨rfl, .inl rfl, List.prefix_append _ _⟩
  | addSp e => exact ((r _).setR16 .sp _).withFlags _ _
  | ldHlSp e => exact ((r _).setR16 .hl _).withFlags _ _
  | rotReg op q => exact ((r _).setR8 _ _).withFlags _ _
  | bitHl b => exact ((r _).busRead _).withFlags _ _
  | resHl b | setHlBit b => exact ((r _).busRead _).busWrite _ _ (List.mem_singleton.2 rfl)

theorem imm8_hl (s : State) : s.imm8.2.hl = s.hl := by simp [State.hl]

/-- A prefixed row stores to HL or nowhere, so fetching its second byte changes nothing here. -/
theorem rowStores_imm8 (op2 : Byte) (s : State) :
    rowStores (prefixedEntry op2) s.imm8.2 = rowStores (prefixedEntry op2) s := by
  have h : op2 = BitVec.ofNat 8 op2.toNat := by simp
  have hn := op2.isLt
  rw [h]
  generalize op2.toNat = n at hn
  change n < 256 at hn
  interval_cases n <;> first | rfl | exact congrArg (fun x => [x]) (imm8_hl s)

/-- What every instruction is made of: it stores at the addresses `storedTo` gives and nowhere else. -/
theorem exec_reaches {i : Instr} {s t : State} (h : exec i s = .next t) :
    Reaches (storedTo i s) s t := by
  refine exec_cases (P := fun i s t => Reaches (storedTo i s) s t) (fun i s hi => ?_)
    (fun s t hp => ?_) h
  · rw [storedTo_of_wellFormed hi]
    exact Shape.reaches _ (shapeOf_ne_prefixCb hi) s
  · have e : storedTo (prefixedEntry s.imm8.1) s.imm8.2 = storedTo .prefix_cb s := by
      rw [storedTo, effective_of_wellFormed (prefixedEntry_wellFormed _), rowStores_imm8]
      rfl
    exact (Reaches.imm8 .refl).trans (e ▸ hp)

/-- Fetching an instruction stores nothing. -/
theorem fetch_reaches (s : State) : Reaches [] s s.fetch.2 := by
  have r : Reaches [] s s := .refl
  unfold State.fetch
  dsimp only
  split
  · exact r.imm8
  · exact r.imm8.imm8
  · exact r.imm8.imm8.imm8
  · exact r.imm8.imm8

end Sys2Proof.Machine
end

