-- ==== Sys2Proof/Tests/Slice0.lean ====
section
/-!
SUPPORT. Tests: well-formedness, words written out from the encodings of 30_encoding.md, one step
each on a small state against the vectors of 95_test_vectors.md (the docstring names the vector and
its rules; its expected values are the spec's), the host's view, and for every statement with
hypotheses a witness that meets them.
-/

namespace Sys2Proof.Tests

open Sys2Proof Sys2Proof.Machine

/-- T0, the start state of the spec's vectors (95_test_vectors.md section 2). -/
def start : State := { State.reset with sp := 0xDFF0, pc := 0x0100, overlay := false }

/-- The state after one step with these bytes at PC. -/
def one (bytes : List Byte) (s : State) : State :=
  match step (s.placeBytes s.pc bytes) with
  | .next t => t
  | .fault _ => s
  | .refused _ => s

/-! ### Well-formedness: the one check refuses the one ill-formed term -/

theorem test_wellFormed_refuses_marker : Instr.wellFormed .prefix_cb = false := by decide
theorem test_wellFormed_accepts_row : Instr.wellFormed .nop = true := by decide
theorem test_decoder_never_gives_marker : decode [0xCB, 0xCB] = .ok .set_1_e [] := by decide

/-! ### Words written out from the encodings, bit by bit (R101, R108 to R113) -/

/-- x = 01, y = 000 (B), z = 001 (C). -/
theorem test_decode_ld_r_r : decode [0b01000001] = .ok .ld_b_c [] := by decide
/-- x = 00, y = 101 (L), z = 110, immediate. -/
theorem test_decode_ld_r_n : decode [0b00101110, 0x5A] = .ok (.ld_l_n8 0x5A) [] := by decide
/-- 0xEA, low address byte first. -/
theorem test_decode_ld_abs : decode [0b11101010, 0x34, 0x12] = .ok (.ld_ma16_a 0x1234) [] := by
  decide
/-- x = 00, p = 11 (SP), q = 0, z = 001, low byte first. -/
theorem test_decode_ld_rr : decode [0b00110001, 0xFE, 0xFF] = .ok (.ld_sp_n16 0xFFFE) [] := by decide
/-- x = 11, p = 11 (AF), q = 0, z = 101. -/
theorem test_decode_push : decode [0b11110101] = .ok .push_af [] := by decide
/-- x = 11, p = 01 (DE), q = 0, z = 001. -/
theorem test_decode_pop : decode [0b11010001] = .ok .pop_de [] := by decide
/-- x = 10, y = 011 (SBC), z = 110 ((HL)). -/
theorem test_decode_alu_mem : decode [0b10011110] = .ok .sbc_a_mhl [] := by decide
/-- x = 11, y = 111 (CP), z = 110, immediate. -/
theorem test_decode_alu_imm : decode [0b11111110, 0x90] = .ok (.cp_a_n8 0x90) [] := by decide
/-- x = 00, y = 110 ((HL)), z = 101 (DEC). -/
theorem test_decode_dec_mem : decode [0b00110101] = .ok .dec_mhl [] := by decide
/-- x = 00, p = 10 (HL), q = 1, z = 001 (ADD HL). -/
theorem test_decode_add_hl : decode [0b00101001] = .ok .add_hl_hl [] := by decide
/-- x = 00, y = 011 (RRA), z = 111. -/
theorem test_decode_rra : decode [0b00011111] = .ok .rra [] := by decide
/-- Prefix, x = 00, y = 101 (SRA), z = 100 (H). -/
theorem test_decode_sra : decode [0xCB, 0b00101100] = .ok .sra_h [] := by decide
/-- Prefix, x = 10 (RES), y = 011 (bit 3), z = 110 ((HL)). -/
theorem test_decode_res : decode [0xCB, 0b10011110] = .ok .res_3_mhl [] := by decide
/-- x = 00, y = 111 (4 + cc C), z = 000. -/
theorem test_decode_jr_c : decode [0b00111000, 0xFE] = .ok (.jr_c_e8 0xFE) [] := by decide
/-- x = 11, y = 010 (cc NC), z = 100. -/
theorem test_decode_call_nc : decode [0b11010100, 0x00, 0xC0] = .ok (.call_nc_a16 0xC000) [] := by
  decide
/-- x = 11, y = 100, z = 111: RST 0x20. -/
theorem test_decode_rst : decode [0b11100111] = .ok .rst_20 [] := by decide
/-- 0x10 takes a second byte (R116). -/
theorem test_decode_stop : decode [0b00010000, 0x77] = .ok (.stop_n8 0x77) [] := by decide
/-- An unmapped byte (R114). -/
theorem test_decode_unmapped : decode [0b11111101] = .ok .illegal_fd [] := by decide
/-- A list that ends before the instruction does. -/
theorem test_decode_truncated : decode [0xC3, 0x50] = .rejected .truncated := by decide

/-! ### The host's view (log entries 9 and 10) -/

theorem test_table_word_base : decodeTableWord 8 0x41 = some .ld_b_c := by decide
theorem test_table_word_operand_zero : decodeTableWord 8 0xC3 = some (.jp_a16 0x0000) := by decide
theorem test_table_word_prefixed : decodeTableWord 16 0xCB36 = some .swap_mhl := by decide
/-- The marker's own row gives no operand bits, so it reads as the pair 0xCB 0x00 (log entry 8). -/
theorem test_table_word_marker : decodeTableWord 8 0xCB = some .rlc_b := by decide
theorem test_placed_word_runs : step (State.reset.withFetchWord 16 0xCBFF) =
    .next { State.reset.withFetchWord 16 0xCBFF with a := 0x80, pc := 2, cycles := 2, divPre := 2 } :=
  rfl
theorem test_core_steps : (Sys2Proof.core.step Sys2Proof.core.reset) =
    .next { State.reset with pc := 1, cycles := 1, divPre := 1 } := by rfl

/-! ### One step each, against the spec's vectors -/

/-- V41-01, R140. -/
theorem test_ld_b_c_V41_01 : let t := one [0x41] { start with b := 0x12, c := 0x34 }
    (t.f, t.b, t.pc, t.cycles) = (0x00, 0x34, 0x0101, 1) := by decide

/-- V41-04, R141. -/
theorem test_ld_b_n8_V41_04 : let t := one [0x06, 0x00] { start with b := 0x77 }
    (t.f, t.b, t.pc, t.cycles) = (0x00, 0x00, 0x0102, 2) := by decide

/-- V41-09, R142, R60. -/
theorem test_ld_a_mhl_V41_09 :
    let t := one [0x7E] { start with h := 0x80, vramBlocked := true, mem := [(0x8000, 0x5A)] }
    (t.f, t.a, t.pc, t.cycles) = (0x00, 0xFF, 0x0101, 2) := by decide

/-- V41-16, R143, R64. -/
theorem test_ld_mhl_a_V41_16 : let t := one [0x77] { start with a := 0x01, h := 0x20 }
    (t.f, t.live 0x2000, t.pc, t.cycles) = (0x00, 0x00, 0x0101, 2) := by decide

/-- V41-20, R144. -/
theorem test_ld_mhl_n8_V41_20 : let t := one [0x36, 0xFF] { start with h := 0xC0 }
    (t.f, t.live 0xC000, t.pc, t.cycles) = (0x00, 0xFF, 0x0102, 3) := by decide

/-- V41-21, R145. -/
theorem test_ld_a_mbc_V41_21 :
    let t := one [0x0A] { start with b := 0xC0, c := 0x01, mem := [(0xC001, 0x42)] }
    (t.f, t.a, t.pc, t.cycles) = (0x00, 0x42, 0x0101, 2) := by decide

/-- V41-25, R148, R64. -/
theorem test_ld_mde_a_V41_25 :
    let t := one [0x12] { start with a := 0x3C, d := 0x80, vramBlocked := true }
    (t.f, t.live 0x8000, t.pc, t.cycles) = (0x00, 0x00, 0x0101, 2) := by decide

/-- V41-26, R149. -/
theorem test_ld_a_ma16_V41_26 :
    let t := one [0xFA, 0x04, 0xFF] { start with mem := [(0xFF04, 0x77)] }
    (t.f, t.a, t.pc, t.cycles) = (0x00, 0x77, 0x0103, 4) := by decide

/-- V41-30, R151. -/
theorem test_ldh_a_mc_V41_30 :
    let t := one [0xF2] { start with c := 0x0F, mem := [(0xFF0F, 0xE5)] }
    (t.f, t.a, t.pc, t.cycles) = (0x00, 0xE5, 0x0101, 2) := by decide

/-- V41-32, R153. -/
theorem test_ldh_a_ma8_V41_32 : let t := one [0xF0, 0x44] { start with mem := [(0xFF44, 0x90)] }
    (t.f, t.a, t.pc, t.cycles) = (0x00, 0x90, 0x0102, 3) := by decide

/-- V41-37, R154, R31. -/
theorem test_ldh_ma8_a_V41_37 : let t := one [0xE0, 0x0F] { start with a := 0xFF }
    (t.f, t.live 0xFF0F, t.pc, t.cycles) = (0x00, 0xFF, 0x0102, 3) := by decide

/-- V41-38, R155. -/
theorem test_ld_a_mhli_V41_38 :
    let t := one [0x2A] { start with h := 0xC0, mem := [(0xC000, 0x11)] }
    (t.f, t.a, t.l, t.pc, t.cycles) = (0x00, 0x11, 0x01, 0x0101, 2) := by decide

/-- V41-44, R158. -/
theorem test_ld_mhld_a_V41_44 :
    let t := one [0x32] { start with h := 0x9F, l := 0xFF, mem := [(0x9FFF, 0x55)] }
    (t.f, t.l, t.live 0x9FFF, t.pc, t.cycles) = (0x00, 0xFE, 0x00, 0x0101, 2) := by decide

/-- V42-01, R162. -/
theorem test_ld_bc_n16_V42_01 : let t := one [0x01, 0x34, 0x12] start
    (t.f, t.b, t.c, t.pc, t.cycles) = (0x00, 0x12, 0x34, 0x0103, 3) := by decide

/-- V42-05, R163. -/
theorem test_ld_ma16_sp_V42_05 : let t := one [0x08, 0x00, 0xC1] { start with sp := 0xFFF8 }
    (t.f, t.live 0xC100, t.live 0xC101, t.pc, t.cycles) =
      (0x00, 0xF8, 0xFF, 0x0103, 5) := by decide

/-- V42-07, R164. -/
theorem test_ld_sp_hl_V42_07 : let t := one [0xF9] { start with h := 0xD0 }
    (t.f, t.sp, t.pc, t.cycles) = (0x00, 0xD000, 0x0101, 2) := by decide

/-- V42-08, R165. -/
theorem test_ld_hl_sp_e8_V42_08 : let t := one [0xF8, 0x08] { start with f := 0xC0, sp := 0xFFF8 }
    (t.f, t.pc, t.cycles) = (0x30, 0x0102, 3) := by decide

/-- V42-15, R166, R160. -/
theorem test_push_bc_V42_15 :
    let t := one [0xC5] { start with b := 0x12, c := 0x34, sp := 0x0000 }
    (t.f, t.sp, t.live 0xFFFE, t.live 0xFFFF, t.pc, t.cycles) =
      (0x00, 0xFFFE, 0x34, 0x12, 0x0101, 4) := by decide

/-- V42-19, R167. -/
theorem test_push_af_V42_19 :
    let t := one [0xF5] { start with a := 0x12, f := 0xB0, sp := 0xD000 }
    (t.f, t.sp, t.live 0xCFFE, t.live 0xCFFF, t.pc, t.cycles) =
      (0xB0, 0xCFFE, 0xB0, 0x12, 0x0101, 4) := by decide

/-- V42-20, R168. -/
theorem test_pop_bc_V42_20 :
    let t := one [0xC1] { start with sp := 0xD000, mem := [(0xD000, 0xCD), (0xD001, 0xAB)] }
    (t.f, t.b, t.c, t.sp, t.pc, t.cycles) = (0x00, 0xAB, 0xCD, 0xD002, 0x0101, 3) := by decide

/-- V42-23, R169. -/
theorem test_pop_af_V42_23 :
    let t := one [0xF1] { start with sp := 0xC000, mem := [(0xC000, 0xFF), (0xC001, 0x12)] }
    (t.a, t.f, t.sp, t.pc, t.cycles) = (0x12, 0xF0, 0xC002, 0x0101, 3) := by decide

/-- V43-01, R189, R181. -/
theorem test_add_a_b_V43_01 : let t := one [0x80] { start with a := 0x3A, f := 0x40, b := 0xC6 }
    (t.a, t.f, t.pc, t.cycles) = (0x00, 0xB0, 0x0101, 1) := by decide

/-- V43-09, R190. -/
theorem test_add_a_mhl_V43_09 :
    let t := one [0x86] { start with a := 0x3C, h := 0xC0, mem := [(0xC000, 0x12)] }
    (t.f, t.a, t.pc, t.cycles) = (0x00, 0x4E, 0x0101, 2) := by decide

/-- V43-12, R192, R182. -/
theorem test_adc_a_e_V43_12 : let t := one [0x8B] { start with a := 0xE1, f := 0x10, e := 0x0F }
    (t.a, t.f, t.pc, t.cycles) = (0xF1, 0x20, 0x0101, 1) := by decide

/-- V43-21, R195, R183. -/
theorem test_sub_a_e_V43_21 : let t := one [0x93] { start with a := 0x3E, e := 0x3E }
    (t.a, t.f, t.pc, t.cycles) = (0x00, 0xC0, 0x0101, 1) := by decide

/-- V43-30, R198, R184. -/
theorem test_sbc_a_h_V43_30 : let t := one [0x9C] { start with a := 0x3B, f := 0x10, h := 0x2A }
    (t.a, t.f, t.pc, t.cycles) = (0x10, 0x40, 0x0101, 1) := by decide

/-- V43-41, R201, R185. -/
theorem test_and_a_l_V43_41 : let t := one [0xA5] { start with a := 0x5A, f := 0x50, l := 0x3F }
    (t.a, t.f, t.pc, t.cycles) = (0x1A, 0x20, 0x0101, 1) := by decide

/-- V43-45, R204, R186. -/
theorem test_xor_a_b_V43_45 : let t := one [0xA8] { start with a := 0xFF, f := 0xF0, b := 0x0F }
    (t.a, t.f, t.pc, t.cycles) = (0xF0, 0x00, 0x0101, 1) := by decide

/-- V43-49, R207, R187. -/
theorem test_or_a_c_V43_49 : let t := one [0xB1] { start with a := 0x5A, f := 0xF0, c := 0x03 }
    (t.a, t.f, t.pc, t.cycles) = (0x5B, 0x00, 0x0101, 1) := by decide

/-- V43-53, R210, R188. -/
theorem test_cp_a_b_V43_53 : let t := one [0xB8] { start with a := 0x3C, b := 0x2F }
    (t.f, t.pc, t.cycles) = (0x60, 0x0101, 1) := by decide

/-- V43-59, R213. -/
theorem test_inc_b_V43_59 : let t := one [0x04] { start with f := 0x10, b := 0xFF }
    (t.f, t.b, t.pc, t.cycles) = (0xB0, 0x00, 0x0101, 1) := by decide

/-- V43-64, R214. -/
theorem test_inc_mhl_V43_64 :
    let t := one [0x34] { start with h := 0xC0, mem := [(0xC000, 0x4F)] }
    (t.f, t.live 0xC000, t.pc, t.cycles) = (0x20, 0x50, 0x0101, 3) := by decide

/-- V43-68, R215. -/
theorem test_dec_b_V43_68 : let t := one [0x05] { start with b := 0x01 }
    (t.f, t.b, t.pc, t.cycles) = (0xC0, 0x00, 0x0101, 1) := by decide

/-- V43-72, R216. -/
theorem test_dec_mhl_V43_72 : let t := one [0x35] { start with h := 0xC0, mem := [] }
    (t.f, t.live 0xC000, t.pc, t.cycles) = (0x60, 0xFF, 0x0101, 3) := by decide

/-- V43-74, R217. -/
theorem test_daa_V43_74 : let t := one [0x27] { start with a := 0x9A }
    (t.a, t.f, t.pc, t.cycles) = (0x00, 0x90, 0x0101, 1) := by decide

/-- V43-80, R217. -/
theorem test_daa_V43_80 : let t := one [0x27] { start with a := 0x12, f := 0x10 }
    (t.f, t.a, t.pc, t.cycles) = (0x10, 0x72, 0x0101, 1) := by decide

/-- V43-91, R218. -/
theorem test_cpl_V43_91 : let t := one [0x2F] { start with a := 0x35, f := 0x90 }
    (t.a, t.f, t.pc, t.cycles) = (0xCA, 0xF0, 0x0101, 1) := by decide

/-- V43-93, R219. -/
theorem test_scf_V43_93 : let t := one [0x37] { start with f := 0xE0 }
    (t.f, t.pc, t.cycles) = (0x90, 0x0101, 1) := by decide

/-- V43-95, R220. -/
theorem test_ccf_V43_95 : let t := one [0x3F] { start with f := 0xF0 }
    (t.f, t.pc, t.cycles) = (0x80, 0x0101, 1) := by decide

/-- V44-01, R225. -/
theorem test_add_hl_bc_V44_01 :
    let t := one [0x09] { start with f := 0x80, b := 0x06, c := 0x05, h := 0x8A, l := 0x23 }
    (t.f, t.h, t.l, t.pc, t.cycles) = (0xA0, 0x90, 0x28, 0x0101, 2) := by decide

/-- V44-10, R226. -/
theorem test_inc_bc_V44_10 : let t := one [0x03] { start with c := 0xFF }
    (t.f, t.b, t.c, t.pc, t.cycles) = (0x00, 0x01, 0x00, 0x0101, 2) := by decide

/-- V44-14, R227. -/
theorem test_dec_bc_V44_14 : let t := one [0x0B] { start with b := 0x01 }
    (t.f, t.b, t.c, t.pc, t.cycles) = (0x00, 0x00, 0xFF, 0x0101, 2) := by decide

/-- V44-18, R228. -/
theorem test_add_sp_e8_V44_18 : let t := one [0xE8, 0x02] { start with f := 0xF0, sp := 0xFFF8 }
    (t.f, t.sp, t.pc, t.cycles) = (0x00, 0xFFFA, 0x0102, 4) := by decide

/-- V45-01, R231. -/
theorem test_rlca_V45_01 : let t := one [0x07] { start with a := 0x85 }
    (t.a, t.f, t.pc, t.cycles) = (0x0B, 0x10, 0x0101, 1) := by decide

/-- V45-03, R232. -/
theorem test_rrca_V45_03 : let t := one [0x0F] { start with a := 0x3B }
    (t.a, t.f, t.pc, t.cycles) = (0x9D, 0x10, 0x0101, 1) := by decide

/-- V45-05, R233. -/
theorem test_rla_V45_05 : let t := one [0x17] { start with a := 0x95, f := 0x10 }
    (t.f, t.a, t.pc, t.cycles) = (0x10, 0x2B, 0x0101, 1) := by decide

/-- V45-07, R234. -/
theorem test_rra_V45_07 : let t := one [0x1F] { start with a := 0x81 }
    (t.a, t.f, t.pc, t.cycles) = (0x40, 0x10, 0x0101, 1) := by decide

/-- V45-11, R236. -/
theorem test_rlc_mhl_V45_11 :
    let t := one [0xCB, 0x06] { start with h := 0xC0, mem := [(0xC000, 0x80)] }
    (t.f, t.live 0xC000, t.pc, t.cycles) = (0x10, 0x01, 0x0102, 4) := by decide

/-- V45-12, R237. -/
theorem test_rrc_c_V45_12 : let t := one [0xCB, 0x09] { start with c := 0x01 }
    (t.f, t.c, t.pc, t.cycles) = (0x10, 0x80, 0x0102, 2) := by decide

/-- V45-14, R239. -/
theorem test_rl_l_V45_14 : let t := one [0xCB, 0x15] { start with l := 0x80 }
    (t.f, t.l, t.pc, t.cycles) = (0x90, 0x00, 0x0102, 2) := by decide

/-- V45-17, R241. -/
theorem test_rr_a_V45_17 : let t := one [0xCB, 0x1F] { start with a := 0x01 }
    (t.a, t.f, t.pc, t.cycles) = (0x00, 0x90, 0x0102, 2) := by decide

/-- V45-20, R243. -/
theorem test_sla_d_V45_20 : let t := one [0xCB, 0x22] { start with d := 0x80 }
    (t.f, t.d, t.pc, t.cycles) = (0x90, 0x00, 0x0102, 2) := by decide

/-- V45-23, R245. -/
theorem test_sra_a_V45_23 : let t := one [0xCB, 0x2F] { start with a := 0x8A }
    (t.f, t.a, t.pc, t.cycles) = (0x00, 0xC5, 0x0102, 2) := by decide

/-- V45-27, R247. -/
theorem test_swap_a_V45_27 : let t := one [0xCB, 0x37] { start with a := 0xF1, f := 0x10 }
    (t.a, t.f, t.pc, t.cycles) = (0x1F, 0x00, 0x0102, 2) := by decide

/-- V45-30, R249. -/
theorem test_srl_a_V45_30 : let t := one [0xCB, 0x3F] { start with a := 0x01 }
    (t.a, t.f, t.pc, t.cycles) = (0x00, 0x90, 0x0102, 2) := by decide

/-- V45-34, R251. -/
theorem test_bit_7_a_V45_34 : let t := one [0xCB, 0x7F] { start with a := 0x80, f := 0x10 }
    (t.f, t.pc, t.cycles) = (0x30, 0x0102, 2) := by decide

/-- V45-38, R252. -/
theorem test_bit_0_mhl_V45_38 :
    let t := one [0xCB, 0x46] { start with h := 0xC0, mem := [(0xC000, 0xFE)] }
    (t.f, t.pc, t.cycles) = (0xA0, 0x0102, 3) := by decide

/-- V45-40, R253. -/
theorem test_res_7_a_V45_40 : let t := one [0xCB, 0xBF] { start with a := 0xFF, f := 0xF0 }
    (t.f, t.a, t.pc, t.cycles) = (0xF0, 0x7F, 0x0102, 2) := by decide

/-- V45-43, R254, R69. -/
theorem test_res_0_mhl_V45_43 :
    let t := one [0xCB, 0x86] { start with h := 0xFF, l := 0x04, mem := [(0xFF04, 0x55)] }
    (t.f, t.live 0xFF04, t.pc, t.cycles) = (0x00, 0x00, 0x0102, 4) := by decide

/-- V45-44, R255. -/
theorem test_set_1_e_V45_44 : let t := one [0xCB, 0xCB] start
    (t.f, t.e, t.pc, t.cycles) = (0x00, 0x02, 0x0102, 2) := by decide

/-- V45-46, R256. -/
theorem test_set_7_mhl_V45_46 : let t := one [0xCB, 0xFE] { start with h := 0xC0, mem := [] }
    (t.f, t.live 0xC000, t.pc, t.cycles) = (0x00, 0x80, 0x0102, 4) := by decide

/-- V46-01, R261. -/
theorem test_jp_a16_V46_01 : let t := one [0xC3, 0x50, 0x01] start
    (t.f, t.pc, t.cycles) = (0x00, 0x0150, 4) := by decide

/-- V46-02, R262, R260. -/
theorem test_jp_nz_a16_V46_02 : let t := one [0xC2, 0x34, 0x12] start
    (t.f, t.pc, t.cycles) = (0x00, 0x1234, 4) := by decide

/-- V46-10, R263. -/
theorem test_jp_hl_V46_10 : let t := one [0xE9] { start with h := 0xC0 }
    (t.f, t.pc, t.cycles) = (0x00, 0xC000, 1) := by decide

/-- V46-11, R264. -/
theorem test_jr_e8_V46_11 : let t := one [0x18, 0xFC] { start with pc := 0x0106 }
    (t.f, t.pc, t.cycles) = (0x00, 0x0104, 3) := by decide

/-- V46-18, R265, R260. -/
theorem test_jr_nz_e8_V46_18 : let t := one [0x20, 0xFC] { start with pc := 0x0106 }
    (t.f, t.pc, t.cycles) = (0x00, 0x0104, 3) := by decide

/-- V46-26, R266. -/
theorem test_call_a16_V46_26 : let t := one [0xCD, 0x34, 0x12] { start with sp := 0xFFFE }
    (t.f, t.sp, t.live 0xFFFC, t.live 0xFFFD, t.pc, t.cycles) =
      (0x00, 0xFFFC, 0x03, 0x01, 0x1234, 6) := by decide

/-- V46-28, R267. -/
theorem test_call_nz_a16_V46_28 : let t := one [0xC4, 0x34, 0x12] { start with sp := 0xFFFE }
    (t.f, t.sp, t.live 0xFFFC, t.live 0xFFFD, t.pc, t.cycles) =
      (0x00, 0xFFFC, 0x03, 0x01, 0x1234, 6) := by decide

/-- V46-36, R268. -/
theorem test_ret_V46_36 :
    let t := one [0xC9] { start with sp := 0xFFFC, mem := [(0xFFFC, 0x03), (0xFFFD, 0x01)] }
    (t.f, t.sp, t.pc, t.cycles) = (0x00, 0xFFFE, 0x0103, 4) := by decide

/-- V46-37, R269. -/
theorem test_ret_nz_V46_37 :
    let t := one [0xC0]
      { start with sp := 0xD000, pc := 0x0200, mem := [(0xD000, 0x50), (0xD001, 0x01)] }
    (t.f, t.sp, t.pc, t.cycles) = (0x00, 0xD002, 0x0150, 5) := by decide

/-- V46-45, R270. -/
theorem test_reti_V46_45 :
    let t := one [0xD9] { start with sp := 0xFFFC, mem := [(0xFFFC, 0x50), (0xFFFD, 0x01)] }
    (t.f, t.sp, t.ime, t.pc, t.cycles) = (0x00, 0xFFFE, true, 0x0150, 4) := by decide

/-- V46-47, R271. -/
theorem test_rst_00_V46_47 : let t := one [0xC7] { start with sp := 0xD000, pc := 0x0200 }
    (t.f, t.sp, t.live 0xCFFE, t.live 0xCFFF, t.pc, t.cycles) =
      (0x00, 0xCFFE, 0x01, 0x02, 0x0000, 4) := by decide

/-- V47-03, R280, R25. -/
theorem test_nop_V47_03 : let t := one [0x00] { start with pc := 0xFFFF }
    (t.f, t.pc, t.cycles) = (0x00, 0x0000, 1) := by decide

/-- V47-04, R281. -/
theorem test_halt_V47_04 :
    let t := one [0x76] { start with pc := 0x0150, ime := true, mem := [(0xFFFF, 0x04)] }
    (t.f, t.mode, t.pc, t.cycles) = (0x00, .halt, 0x0151, 1) := by decide

/-- V47-06, R282. -/
theorem test_stop_n8_V47_06 : let t := one [0x10, 0x00] { start with pc := 0x0200 }
    (t.f, t.mode, t.pc, t.cycles) = (0x00, .stopped, 0x0202, 1) := by decide

/-- V47-08, R283. -/
theorem test_di_V47_08 : let t := one [0xF3] { start with ime := true }
    (t.f, t.ime, t.pc, t.cycles) = (0x00, false, 0x0101, 1) := by decide

/-- V47-10, R284. -/
theorem test_ei_V47_10 : let t := one [0xFB] start
    (t.f, t.imePending, t.pc, t.cycles) = (0x00, true, 0x0101, 1) := by decide

/-- V47-15, R286. -/
theorem test_illegal_d3_V47_15 :
    let t := one [0xD3, 0x12, 0x34] { start with a := 0x11, f := 0xF0, pc := 0x0300 }
    (t.f, t.reports, t.pc, t.cycles) = (0xF0, [⟨0xD3, 0x0300⟩], 0x0301, 1) := by decide

/-- V60-01, R307, R308. -/
theorem test_dispatch_vblank_V60_01 :
    let t := one [0x00]
      { start with
        sp := 0xD000, pc := 0x0234, ime := true
        mem := [(0xFF0F, 0x01), (0xFFFF, 0x1F)] }
    (t.sp, t.ime, t.live 0xCFFE, t.live 0xCFFF, t.live 0xFF0F, t.pc, t.cycles) =
      (0xCFFE, false, 0x34, 0x02, 0x00, 0x0040, 5) := by decide

/-- V60-07, R307, R304. -/
theorem test_dispatch_lowest_enabled_V60_07 :
    let t := one [0x00]
      { start with
        sp := 0xD000, pc := 0x0234, ime := true
        mem := [(0xFF0F, 0x1F), (0xFFFF, 0x1C)] }
    (t.sp, t.ime, t.live 0xCFFE, t.live 0xCFFF, t.live 0xFF0F, t.pc, t.cycles) =
      (0xCFFE, false, 0x34, 0x02, 0x1B, 0x0050, 5) := by decide

/-- V60-08, R304. -/
theorem test_upper_request_bits_ignored_V60_08 :
    let t := one [0x00]
      { start with
        sp := 0xD000, pc := 0x0234, ime := true
        mem := [(0xFF0F, 0xE0), (0xFFFF, 0xE0)] }
    (t.f, t.pc, t.cycles) = (0x00, 0x0235, 1) := by decide

/-- V60-09, R305. -/
theorem test_no_dispatch_without_ime_V60_09 :
    let t := one [0x00]
      { start with sp := 0xD000, pc := 0x0234, mem := [(0xFF0F, 0x1F), (0xFFFF, 0x1F)] }
    (t.f, t.pc, t.cycles) = (0x00, 0x0235, 1) := by decide

/-- V60-15, R330. -/
theorem test_halt_idle_V60_15 : let t := one [0x00] { start with mode := .halt }
    (t.f, t.divPre, t.pc, t.cycles) = (0x00, 1, 0x0100, 1) := by decide

/-- V60-16, R331. -/
theorem test_halt_wake_V60_16 :
    let t := one [0x3C] { start with mode := .halt, mem := [(0xFF0F, 0x04), (0xFFFF, 0x04)] }
    (t.f, t.a, t.mode, t.pc, t.cycles) = (0x00, 0x01, .run, 0x0101, 1) := by decide

/-- V60-17, R331, R307. -/
theorem test_halt_wake_and_dispatch_V60_17 :
    let t := one [0x3C]
      { start with
        sp := 0xD000, pc := 0x0234, ime := true, mode := .halt
        mem := [(0xFF0F, 0x04), (0xFFFF, 0x04)] }
    (t.sp, t.ime, t.mode, t.live 0xCFFE, t.live 0xFF0F, t.pc, t.cycles) =
      (0xCFFE, false, .run, 0x34, 0x00, 0x0050, 5) := by decide

/-- V61-01, R311. -/
theorem test_div_prescaler_V61_01 : let t := one [0x00] { start with divPre := 62 }
    (t.f, t.divPre, t.pc, t.cycles) = (0x00, 63, 0x0101, 1) := by decide

/-- V61-05, R312. -/
theorem test_tima_tick_V61_05 :
    let t := one [0x00] { start with mem := [(0xFF05, 0x10), (0xFF07, 0x05)], timaPre := 3 }
    (t.f, t.live 0xFF05, t.divPre, t.timaPre, t.pc, t.cycles) =
      (0x00, 0x11, 1, 0, 0x0101, 1) := by decide

/-- V61-08, R312. -/
theorem test_tima_overflow_V61_08 :
    let t := one [0x00]
      { start with mem := [(0xFF05, 0xFF), (0xFF06, 0xAB), (0xFF07, 0x05)], timaPre := 3 }
    (t.f, t.live 0xFF05, t.live 0xFF0F, t.divPre, t.timaPre, t.pc, t.cycles) =
      (0x00, 0xAB, 0x04, 1, 0, 0x0101, 1) := by decide

/-- V61-15, R69, R310. -/
theorem test_ldh_ma8_a_V61_15 :
    let t := one [0xE0, 0x04] { start with a := 0x99, mem := [(0xFF04, 0x42)], divPre := 62 }
    (t.f, t.live 0xFF04, t.divPre, t.pc, t.cycles) = (0x00, 0x01, 1, 0x0102, 3) := by decide

/-- V61-16, R66, R310. -/
theorem test_ldh_ma8_a_V61_16 :
    let t := one [0xE0, 0x05] { start with a := 0xFF, mem := [(0xFF07, 0x05)], timaPre := 1 }
    (t.f, t.live 0xFF0F, t.divPre, t.timaPre, t.pc, t.cycles) =
      (0x00, 0x04, 3, 0, 0x0102, 3) := by decide

/-- V62-01, R60. -/
theorem test_ld_a_ma16_V62_01 :
    let t := one [0xFA, 0x10, 0x00]
      { start with
        overlay := true, platform.cartImage := [(0x0010, 0xBB)]
        platform.bootImage := [(0x0010, 0xAA)] }
    (t.f, t.a, t.pc, t.cycles) = (0x00, 0xAA, 0x0103, 4) := by decide

/-- V62-05, R65. -/
theorem test_ldh_ma8_a_V62_05 : let t := one [0xE0, 0x50] { start with overlay := true }
    (t.f, t.overlay, t.pc, t.cycles) = (0x00, false, 0x0102, 3) := by decide

/-- V62-08, R64. -/
theorem test_ld_ma16_a_V62_08 :
    let t := one [0xEA, 0x10, 0x00] { start with a := 0x55, overlay := true }
    (t.f, t.live 0x0010, t.pc, t.cycles) = (0x00, 0x00, 0x0103, 4) := by decide

/-- V62-10, R68, R320. -/
theorem test_ldh_ma8_a_V62_10 :
    let t := one [0xE0, 0x02] { start with a := 0x81, mem := [(0xFF01, 0x48)] }
    (t.f, t.live 0xFF02, t.live 0xFF0F, t.serialOut, t.pc, t.cycles) =
      (0x00, 0x01, 0x08, [0x48], 0x0102, 3) := by decide

/-- V62-14, R73, R64. -/
theorem test_ld_ma16_sp_V62_14 : let t := one [0x08, 0xFF, 0x7F] { start with sp := 0xABCD }
    (t.f, t.live 0x8000, t.pc, t.cycles) = (0x00, 0xAB, 0x0103, 5) := by decide

/-- V62-16, R72, R60. -/
theorem test_pop_bc_V62_16 :
    let t := one [0xC1]
      { start with sp := 0x9FFF, vramBlocked := true, mem := [(0x9FFF, 0x11), (0xA000, 0x22)] }
    (t.f, t.b, t.c, t.sp, t.pc, t.cycles) = (0x00, 0x22, 0xFF, 0xA001, 0x0101, 3) := by decide

/-- V62-18, R83, R60, R271. -/
theorem test_inc_a_V62_18 :
    let t := one [] { start with pc := 0x8000, vramBlocked := true, mem := [(0x8000, 0x3C)] }
    (t.f, t.sp, t.live 0xDFEE, t.live 0xDFEF, t.pc, t.cycles) =
      (0x00, 0xDFEE, 0x01, 0x80, 0x0038, 4) := by decide

/-! ### Witnesses: for each statement with hypotheses, states and operands that meet them, at the ends of
the ranges, and what the statement then says of them -/

/-- A RAM program state with an interrupt-free stack. -/
def wram : State := { start with a := 0x12, f := 0xB0, b := 0x34, h := 0xC0, pc := 0xC100, sp := 0xD000 }

/-- The state with one empty and one filled batch of moves ahead. -/
def moving : State := { wram with moves := [[.storeLy 0x90, .requestJoypad], []] }

/-- A platform the spec allows with other parameters than the defaults: IF, TIMA and SC elsewhere, a
shorter divider period, TAC's fields in the high bits, 0x3C unmapped, NOP and JR NZ of other costs. -/
def other : Platform := { Platform.default with
  addrIf := 0xA000, addrTima := 0xA001, addrSc := 0xA002, vecTimer := 0x1234, dispatchCycles := 7,
  divPeriod := 3, tacEnableBit := 7, tacRateBit := 5, moreUnmapped := [0x3C],
  cycleChanges := [(0x3C, 4, 4), (0x00, 3, 3), (0x20, 9, 8)] }

/-- The same program state on that platform. -/
def elsewhere : State := { wram with platform := other }

theorem test_default_platform_allowed : Platform.default.wf = true := by decide
/-- D3: IF may not lie on LY, nor a region below 0x8000. -/
theorem test_platform_refused : { other with addrIf := 0xFF44 }.wf = false ∧
    { other with oamLo := 0x7FFF }.wf = false ∧ { other with vramHi := 0xFE00 }.wf = false := by decide
theorem test_parameters_are_used : other.wf = true ∧
    (elsewhere.memWrite 0xA002 0x80).live 0xA000 = 0x08 ∧
    (elsewhere.memWrite 0xFF02 0x80).live 0xFF02 = 0x80 ∧
    (elsewhere.takeInterrupt .timer).pc = 0x1234 ∧
    (one [0x00] elsewhere).cycles = 3 := by decide
theorem test_other_timers :
    let t := account 4 { elsewhere with mem := [(0xA001, 0xFF), (0xFF06, 9), (0xFF07, 0xA0)] }
    (t.live 0xA001, t.live 0xA000, t.live 0xFF04, t.divPre) = (0x09, 0x04, 0x01, 1) := by decide
theorem test_added_unmapped_byte : let t := one [0x3C] elsewhere
    (t.pc, t.a, t.cycles, t.reports) = (0xC101, 0x12, 4, [⟨0x3C, 0xC100⟩]) := by decide

theorem test_witness_DecodeUndoesEncode : Instr.WellFormed (.ld_bc_n16 0x1234) := by decide
theorem test_witness_EncodeUndoesDecode : decode [0xCB, 0x37, 0x99] = .ok .swap_a [0x99] := by decide
theorem test_witness_UnmappedBytes : decode [0xD3, 0x99] = .ok (.unmapped .xd3) [0x99] := by decide
theorem test_witness_UnmappedBytes_added : let s := { elsewhere with mem := [(0xC100, 0x3C)] }
    let u := s.takeMoves.promote
    s.mode = .run ∧ s.takeMoves.toDispatch = none ∧ u.imm8.1 ∈ s.platform.moreUnmapped ∧
    u.imm8.1 ≠ 0xCB := by decide
theorem test_witness_FlagBitsOfF : wram.Inv ∧ wram.f &&& 0x0F = 0 := by decide

theorem test_witness_ReadContract_oam : let s := { start with oamBlocked := true }
    (0xFE00 : Word) ≤ 0xFE9F ∧ s.oamBlocked = true ∧
    s.memRead 0xFE00 = 0xFF ∧ s.memRead 0xFE9F = 0xFF := by decide
theorem test_witness_ReadContract_vram : let s := { start with vramBlocked := true }
    (0x8000 : Word) ≤ 0x9FFF ∧ s.vramBlocked = true ∧
    s.memRead 0x8000 = 0xFF ∧ s.memRead 0x9FFF = 0xFF := by decide
theorem test_witness_ReadContract_overlay :
    let s := { State.reset with platform.bootImage := [(0, 7), (255, 8)] }
    (0x00FF : Word) ≤ 0x00FF ∧ s.overlay = true ∧ s.platform.wf = true ∧ s.oamBlocked = false ∧
    s.vramBlocked = false ∧
    s.memRead 0x0000 = 0x07 ∧ s.memRead 0x00FF = 0x08 := by decide
theorem test_witness_ReadContract_cartridge :
    let s := { State.reset with platform.cartImage := [(256, 7), (32767, 8)] }
    ¬ ((0x0100 : Word) ≤ 0x00FF ∧ s.overlay = true) ∧ (0x7FFF : Word) ≤ 0x7FFF ∧
    s.platform.wf = true ∧ s.oamBlocked = false ∧ s.vramBlocked = false ∧
    s.memRead 0x0100 = 0x07 ∧ s.memRead 0x7FFF = 0x08 := by decide
theorem test_witness_ReadContract_live :
    let s := { start with oamBlocked := true, mem := [(0x8000, 7), (0xFEA0, 8), (0xFFFF, 9)] }
    (0x7FFF : Word) < 0x8000 ∧ ¬ ((0xFEA0 : Word) ≤ 0xFE9F) ∧ s.vramBlocked = false ∧
    s.memRead 0x8000 = 0x07 ∧ s.memRead 0xFEA0 = 0x08 ∧ s.memRead 0xFFFF = 0x09 := by decide

theorem test_witness_WriteContract_rom : (0x7FFF : Word) ≤ 0x7FFF ∧
    start.memWrite 0x0000 0x55 = start ∧ start.memWrite 0x7FFF 0x55 = start := by decide
theorem test_witness_WriteContract_blocked :
    let s := { start with oamBlocked := true, vramBlocked := true }
    s.memWrite 0xFE00 0x55 = s ∧ s.memWrite 0xFE9F 0x55 = s ∧ s.memWrite 0x8000 0x55 = s ∧
    s.memWrite 0x9FFF 0x55 = s := by decide
theorem test_witness_WriteContract_latch : let t := State.reset.memWrite 0xFF50 0x01
    t.overlay = false ∧ t.mem = [(0xFF50, 0x01)] := by decide
theorem test_witness_WriteContract_plain : (0x7FFF : Word) < 0x8000 ∧ start.mem.wf = true ∧
    start.vramBlocked = false ∧ start.oamBlocked = false ∧
    (start.memWrite 0x8000 0x55).mem = [(0x8000, 0x55)] ∧
    (start.memWrite 0xFF01 0x55).mem = [(0xFF01, 0x55)] ∧
    (start.memWrite 0xFFFF 0x55).mem = [(0xFFFF, 0x55)] := by decide
theorem test_witness_SerialAndDividerWrites : start.platform.wf = true ∧
    start.mem.wf = true ∧ start.blocked 0xFF02 = false ∧ start.blocked 0xFF04 = false ∧
    (start.memWrite 0xFF02 0x80).serialOut = [0x00] ∧ (start.memWrite 0xFF02 0x7F).serialOut = [] ∧
    ({ start with divPre := 9, platform.divWriteClearsPrescaler := true }.memWrite 0xFF04 7).divPre = 0 ∧
    ({ start with divPre := 9 }.memWrite 0xFF04 7).divPre = 9 := by decide

theorem test_witness_MovesAndBlockedFlags_step : ∃ t, step moving = .next t ∧
    t.vramBlocked = moving.vramBlocked ∧ moving.platform.wf = true ∧ moving.mem.wf = true ∧
    (∀ batch ∈ moving.moves, ∀ m ∈ batch, ∀ b, m ≠ .setVramBlocked b) ∧
    ∀ batch ∈ moving.moves, ∀ m ∈ batch, ∀ b, m ≠ .setOamBlocked b :=
  ⟨_, rfl, rfl, by decide, rfl, by decide, by decide⟩
theorem test_witness_moves_made : (one [] moving).live 0xFF44 = 0x90 ∧
    (one [] moving).live 0xFF0F = 0x10 := by decide

/-- Hypotheses of `StackHelper` and of `StackRoundTrips`. -/
theorem test_witness_StackHelper : wram.mem.wf = true ∧ wram.moves = [] ∧
    wram.plainByte (wram.sp - 2) = true ∧ wram.plainByte (wram.sp - 1) = true ∧
    (wram.push16 0xBEEF).pop16.1 = 0xBEEF := by decide
/-- The ends of the address space: the slot 0xFFFE, 0xFFFF below SP = 0x0000. -/
theorem test_witness_StackRoundTrips : let s := { wram with sp := 0x0000 }
    s.mem.wf = true ∧ s.moves = [] ∧ s.plainByte (s.sp - 2) = true ∧
    s.plainByte (s.sp - 1) = true ∧ s.f &&& 0x0F = 0 ∧ s.sp - 2 ≠ 0xFF0F ∧ s.sp - 1 ≠ 0xFF0F := by
  decide
theorem test_witness_DecimalAdjustIsBcd :
    (99 < 100) ∧ { start with a := 0x99 }.a = BitVec.ofNat 8 (16 * (99 / 10) + 99 % 10) ∧
    { start with a := 0x00 }.a = BitVec.ofNat 8 (16 * (0 / 10) + 0 % 10) := by decide
theorem test_witness_RotateAndShiftBits : (rotResult .rl 0x80 true).getLsbD 0 = true ∧
    (rotResult .srl 0x80 true).getLsbD 7 = false := by decide
theorem test_witness_conditions : ∀ cc ∈ [Cond.nz, .z, .nc, .c],
    (condHolds cc { start with f := 0x90 }.f, condHolds cc { start with f := 0x00 }.f) =
      (if cc = .z ∨ cc = .c then (true, false) else (false, true)) := by decide
theorem test_witness_CallsAndRestarts_taken : condHolds .c { wram with f := 0x10 }.f = true ∧
    condHolds .c { wram with f := 0x00 }.f = false := by decide
theorem test_witness_Returns_taken : condHolds .nz { wram with f := 0x00 }.f = true ∧
    condHolds .nz { wram with f := 0x80 }.f = false := by decide

theorem test_witness_StepRunsDecoded : let s := { wram with mem := [(0xC100, 0xCB), (0xC101, 0x37)] }
    s.mode = .run ∧ s.moves = [] ∧ s.toDispatch = none ∧
    s.memRead s.pc ∉ s.platform.moreUnmapped ∧
    decode [s.memRead s.pc, s.memRead (s.pc + 1), s.memRead (s.pc + 2)] = .ok .swap_a [0x00] := by
  decide
theorem test_witness_StepRunsDecoded_cost :
    other.cycleChanges.lookup (Instr.jr_nz_e8 0).tableNumber = some (9, 8) ∧
    other.cycleChanges.lookup Instr.swap_a.tableNumber = none ∧
    (other.cost (.jr_nz_e8 0) 0x00, other.cost (.jr_nz_e8 0) 0x80, other.cost .swap_a 0x00) =
      (9, 8, 2) := by decide
theorem test_witness_StepFetchesThroughTheContract :
    let s := { moving with moves := [[], [.setVramBlocked true]], pc := 0x9FFF }
    let u := s.takeMoves.promote
    s.mode = .run ∧ s.takeMoves.toDispatch = none ∧ u.imm8.1 ∉ s.platform.moreUnmapped ∧
    decode [u.imm8.1, u.imm8.2.imm8.1, u.imm8.2.imm8.2.imm8.1] = .ok .rst_38 [0x00, 0x00] := by decide
theorem test_witness_WhatIsDispatched : ∀ n ∈ [Source.vblank, .lcd, .timer, .serial, .joypad],
    let s := { wram with ime := true, mem := [(0xFF0F, n.mask), (0xFFFF, 0xFF)] }
    s.mode = .run ∧ s.takeMoves.toDispatch = some n := by decide
theorem test_witness_DispatchSequence : let s := { wram with ime := true, mem := [(0xFF0F, 0x1F)] }
    s.mem.wf = true ∧ s.moves = [] ∧ s.plainByte (s.sp - 2) = true ∧
    s.plainByte (s.sp - 1) = true ∧ s.sp - 2 ≠ 0xFF0F ∧ s.sp - 1 ≠ 0xFF0F ∧
    (s.takeInterrupt .joypad).pc = 0x0060 ∧ (s.takeInterrupt .joypad).live 0xFF0F = 0x0F := by decide
theorem test_witness_EnableIsDelayed :
    let s := { wram with imePending := true, mem := [(0xC100, 0x3C), (0xFF0F, 1), (0xFFFF, 1)] }
    s.mode = .run ∧ s.moves = [] ∧ s.ime = false ∧ s.imePending = true ∧
    s.memRead s.pc ∉ s.platform.moreUnmapped ∧
    decode [s.memRead s.pc, s.memRead (s.pc + 1), s.memRead (s.pc + 2)] = .ok .inc_a [0x00, 0x00] ∧
    (one [] s).a = 0x13 ∧ (one [] s).ime = true := by decide
theorem test_witness_EnableIsDelayed_added :
    let s := { elsewhere with imePending := true, mem := [(0xC100, 0x3C)] }
    s.mode = .run ∧ s.moves = [] ∧ s.ime = false ∧ s.imePending = true ∧
    s.memRead s.pc ∈ s.platform.moreUnmapped ∧ s.memRead s.pc ≠ 0xCB ∧ (one [] s).ime = true := by decide
theorem test_witness_HaltIdlesAndWakes : let s := { wram with mode := .halt }
    let w := { s with mem := [(0xFF0F, 0x10), (0xFFFF, 0x10)] }
    s.mode = .halt ∧ s.takeMoves.pending = 0 ∧ w.mode = .halt ∧ w.takeMoves.pending = 0x10 := by decide
theorem test_witness_OnlyStoppedIsStuck : wram.Enabled ∧ { wram with mode := .stopped }.mode = .stopped ∧
    step { wram with mode := .stopped } = .fault .stopped := ⟨by decide, rfl, rfl⟩
theorem test_witness_AccountingAndDivider : wram.platform.wf = true ∧ wram.mem.wf = true ∧
    (account 2 { wram with divPre := 62 }).live 0xFF04 = 0x01 ∧
    (account 1 { wram with divPre := 62 }).live 0xFF04 = 0x00 := by decide
/-- Disabled; the last count without an overflow; the first with one. -/
theorem test_witness_TimerCounts :
    let s := { wram with timaPre := 3, mem := [(0xFF05, 0xFE), (0xFF06, 0x20), (0xFF07, 0x05)] }
    s.platform.wf = true ∧ s.mem.wf = true ∧ (s.live 0xFF07).getLsbD 2 = true ∧ (wram.live 0xFF07).getLsbD 2 = false ∧
    ((timaAdvance 1 s).live 0xFF05, (timaAdvance 1 s).live 0xFF0F) = (0xFF, 0x00) ∧
    ((timaAdvance 5 s).live 0xFF05, (timaAdvance 5 s).live 0xFF0F) = (0x20, 0x04) ∧
    ((account 5 s).live 0xFF05, (account 5 s).live 0xFF0F, (account 5 s).timaPre) =
      (0x20, 0x04, 0) := by decide
theorem test_witness_StepKeepsInvariant : ∃ t, wram.Inv ∧ step wram = .next t ∧ t.Inv :=
  ⟨one [] wram, by decide, rfl, by decide⟩
theorem test_witness_StepOnlyGoesForward : ∃ t, step wram = .next t ∧ wram.overlay = false ∧
    wram.platform.wf = true ∧ t.cycles = 1 := ⟨_, rfl, rfl, by decide, rfl⟩

/-- `RegisterFrame`: SWAP A writes A alone. -/
theorem test_witness_RegisterFrame : (∃ t, exec .swap_a wram = .next t ∧ t.b = 0x34 ∧ t.a = 0x21) ∧
    Reg8.b ∉ destinations (effective .swap_a wram) ∧ writesSp (effective .swap_a wram) = false :=
  ⟨⟨_, rfl, rfl, rfl⟩, by decide, by decide⟩
theorem test_witness_FlagFrame : ∃ t, exec .cpl wram = .next t ∧ t.f = 0xF0 := ⟨_, rfl, rfl⟩
/-- `MemoryFrame`: a store beside the byte; a serial store, which may change IF; moves ahead. -/
theorem test_witness_MemoryFrame : (∃ t, exec .ld_mhl_a wram = .next t ∧ t.mem = [(0xC000, 0x12)]) ∧
    (0xC001 : Word) ∉ storedTo .ld_mhl_a wram ∧ (0xFF02 : Word) ∉ storedTo .ld_mhl_a wram ∧
    (0xFF0F : Word) ∉ storedTo (.ldh_ma8_a 0x02) wram ∧
    (0xFF02 : Word) ∈ storedTo (.ldh_ma8_a 0x02) wram ∧ moving.moves ≠ [] :=
  ⟨⟨_, rfl, rfl⟩, by decide, by decide, by decide, by decide, by decide⟩
theorem test_witness_ControlFrame : (∃ t, exec .inc_a wram = .next t ∧ t.ime = wram.ime) ∧
    Instr.inc_a ≠ .di ∧ Instr.inc_a ≠ .reti ∧ Instr.inc_a ≠ .ei ∧ Instr.inc_a ≠ .halt ∧
    (∀ n, Instr.inc_a ≠ .stop_n8 n) ∧ (∀ u : Unmapped, Instr.inc_a ≠ .unmapped u) ∧
    storedTo .inc_a wram = [] :=
  ⟨⟨_, rfl, rfl⟩, by decide, by decide, by decide, by decide, nofun, fun u => by cases u <;> decide,
    by decide⟩
theorem test_witness_DataAccesses : Instr.WellFormed .inc_mhl ∧
    (∃ t, exec .inc_mhl moving = .next t ∧ t.moves = []) ∧ (∀ n, Instr.inc_mhl ≠ .stop_n8 n) :=
  ⟨by decide, ⟨_, rfl, rfl⟩, nofun⟩
theorem test_witness_TimeIsNotRead : ∃ t, exec .inc_mhl wram = .next t ∧
    exec .inc_mhl { wram with cycles := 7, timaPre := 2 } = .next { t with cycles := 7, timaPre := 2 } :=
  ⟨_, rfl, rfl⟩

end Sys2Proof.Tests
end

section
/-!
PROOFS. The collaborators' moves (60_exceptions.md R322 to R326): what one move, a batch and an
interleaving point change; what a driver step can do (40_engine.md R120), said once; that only a move
changes a blocked flag; and the state after reset (70_reset_and_hazards.md R350 to R354).
-/

namespace Sys2Proof.Machine

open Sys2Proof

/-! ### What moves change (R322 to R326) -/

/-- An interleaving point is one batch on the state with that batch off the schedule; with no move
scheduled the batch is empty. -/
theorem State.takeMoves_eq (s : State) :
    s.takeMoves = { s with moves := s.moves.tail }.applyMoves (s.moves.headD []) := by
  cases hs : s.moves with
  | nil =>
    rw [State.takeMoves_of_nil hs]
    exact congrArg (fun l => { s with moves := l }) hs
  | cons batch rest =>
    rw [State.takeMoves, hs]
    rfl

/-- The two states differ in the blocked flags and the live bytes alone. -/
def MovesOnly (s t : State) : Prop :=
  t = { s with vramBlocked := t.vramBlocked, oamBlocked := t.oamBlocked, mem := t.mem }

theorem MovesOnly.trans {s t u : State} (hst : MovesOnly s t) (htu : MovesOnly t u) :
    MovesOnly s u :=
  Eq.trans htu (congrArg (fun w : State =>
    { w with vramBlocked := u.vramBlocked, oamBlocked := u.oamBlocked, mem := u.mem }) hst)

theorem State.applyMove_movesOnly (s : State) (m : Move) : MovesOnly s (s.applyMove m) := by
  cases m <;> rfl

theorem State.applyMoves_movesOnly (ms : List Move) (s : State) : MovesOnly s (s.applyMoves ms) := by
  induction ms generalizing s with
  | nil => rfl
  | cons m ms ih => exact (s.applyMove_movesOnly m).trans (ih _)

theorem State.takeMoves_movesOnly (s : State) :
    MovesOnly { s with moves := s.moves.tail } s.takeMoves :=
  s.takeMoves_eq ▸ State.applyMoves_movesOnly _ _

/-! ### Moves clear no bit of IF (R303, R324, R325) -/

theorem State.store_mem_wf {s : State} (h : s.mem.wf = true) (x : Word) (v : Byte) :
    (s.store x v).mem.wf = true :=
  Memory.wf_write h x.isLt

theorem State.applyMove_mem_wf {s : State} (h : s.mem.wf = true) (m : Move) :
    (s.applyMove m).mem.wf = true := by
  cases m with
  | setVramBlocked | setOamBlocked => exact h
  | storeLy | requestVblank | requestLcd | requestJoypad => exact State.store_mem_wf h _ _

/-- A request leaves every bit of IF that was 1 at 1. -/
theorem State.requestInterrupt_if_bit {s : State} (h : s.mem.wf = true) (n : Source) {i : Nat}
    (hi : (s.live s.platform.addrIf).getLsbD i = true) :
    ((s.requestInterrupt n).live s.platform.addrIf).getLsbD i = true := by
  rw [State.requestInterrupt, State.store_live_same h, BitVec.getLsbD_or, hi, Bool.true_or]

/-- Only the store of LY could clear a bit of IF, and IF is not LY. -/
theorem State.applyMove_if_bit {s : State} (hne : s.platform.addrIf ≠ s.platform.addrLy)
    (h : s.mem.wf = true) (m : Move) {i : Nat}
    (hi : (s.live s.platform.addrIf).getLsbD i = true) :
    ((s.applyMove m).live s.platform.addrIf).getLsbD i = true := by
  cases m with
  | setVramBlocked | setOamBlocked => exact hi
  | storeLy v => rwa [State.applyMove, State.store_live_other s v hne]
  | requestVblank | requestLcd | requestJoypad => exact State.requestInterrupt_if_bit h _ hi

theorem State.applyMoves_if_bit (ms : List Move) {s : State}
    (hne : s.platform.addrIf ≠ s.platform.addrLy) (h : s.mem.wf = true) {i : Nat}
    (hi : (s.live s.platform.addrIf).getLsbD i = true) :
    ((s.applyMoves ms).live s.platform.addrIf).getLsbD i = true := by
  induction ms generalizing s with
  | nil => exact hi
  | cons m ms ih =>
    have hp : (s.applyMove m).platform = s.platform := State.applyMove_platform s m
    rw [State.applyMoves, ← hp]
    exact ih (hp.symm ▸ hne) (State.applyMove_mem_wf h m)
      (hp.symm ▸ State.applyMove_if_bit hne h m hi)

/-- On a platform the spec allows, IF after an interleaving point has every bit it had before. -/
theorem State.takeMoves_if_and {s : State} (hp : s.platform.wf = true) (h : s.mem.wf = true) :
    s.live s.platform.addrIf &&& s.takeMoves.live s.platform.addrIf =
      s.live s.platform.addrIf := by
  have hne : s.platform.addrIf ≠ s.platform.addrLy := Platform.wf_ne hp 6 7 (by decide)
  refine BitVec.eq_of_getLsbD_eq fun i _ => ?_
  rw [BitVec.getLsbD_and, s.takeMoves_eq, Bool.and_eq_left_iff_imp]
  exact State.applyMoves_if_bit (s := { s with moves := s.moves.tail }) _ hne h

/-! ### What a driver step can do (R120) -/

/-- A step from `s` ends in `t` in one of four ways: an idle cycle, a dispatch, a report of a byte the
platform adds to `UNMAPPED`, or an instruction's meaning. Up to there it has made interleaving points
and changed cells, and stored nothing; after it comes the accounting part. -/
inductive Stepped (s : State) : State → Prop where
  /-- HALT with nothing pending (R330). -/
  | idled {u : State} : Reaches [] s u → Stepped s (account idleCycles u)
  /-- An interrupt is dispatched (R305, R307). -/
  | dispatched {u : State} (n : Source) : Reaches [] s u →
      Stepped s (account s.platform.dispatchCycles (u.takeInterrupt n))
  /-- A byte of `UNMAPPED` without a row is reported (R286). -/
  | reported {u : State} (op : Byte) : Reaches [] s u →
      Stepped s (account (s.platform.unmappedCost op) (unmapped op u))
  /-- An instruction is executed (R120). -/
  | ran {u v : State} {i : Instr} : Reaches [] s u → exec i u = .next v →
      Stepped s (account (s.platform.cost i u.f) v)

theorem Reaches.platform {l : List Word} {s t : State} (h : Reaches l s t) :
    t.platform = s.platform :=
  h.preserves (P := fun u => u.platform = s.platform) (fun u hu => by simpa using hu)
    (fun u x v _ hu => by simpa using hu)
    (fun u w hu hc => (congrArg State.platform hc.same).trans hu) rfl

/-- The promotion of the delayed enable changes cells alone (R306). -/
theorem State.promote_cellsOnly (s : State) : CellsOnly s s.promote := by
  unfold State.promote
  split <;> exact ⟨rfl, .inl rfl, List.prefix_rfl⟩

theorem Reaches.stepped_of_runInstruction {s u t : State} (hu : Reaches [] s u)
    (h : runInstruction u = .next t) : Stepped s t := by
  simp only [runInstruction, hu.platform] at h
  split at h
  · injection h with h
    exact h ▸ .reported _ hu.imm8
  · split at h
    next v hv =>
      injection h with h
      exact h ▸ .ran (hu.trans (fetch_reaches u)) hv
    all_goals exact nomatch h

theorem Reaches.stepped_of_runBoundary {s u t : State} (hu : Reaches [] s u)
    (h : runBoundary u = .next t) : Stepped s t := by
  unfold runBoundary at h
  split at h
  next n _ =>
    injection h with h
    exact h ▸ hu.platform ▸ .dispatched n hu
  next => exact (hu.cells u.promote_cellsOnly).stepped_of_runInstruction h

/-- Every step that gives a next state is one of the four of `Stepped`. -/
theorem stepped_of_step {s t : State} (h : step s = .next t) : Stepped s t := by
  have hs : Reaches [] s s.takeMoves := Reaches.refl.moves
  unfold step driverStep at h
  split at h
  next => exact nomatch h
  next => exact hs.stepped_of_runBoundary h
  next =>
    dsimp only at h
    split at h
    next =>
      injection h with h
      exact h ▸ .idled hs
    next =>
      have hrun : Reaches [] s { s.takeMoves with mode := .run } :=
        hs.cells ⟨rfl, .inl rfl, List.prefix_rfl⟩
      exact hrun.stepped_of_runBoundary h

/-- A property kept by each kind of change a step is made of: interleaving points, stores through the
contract, changes of cells, the clearing of a dispatched source's bit of IF, and the accounting
part. -/
structure StepClosed (P : State → Prop) : Prop where
  moves : ∀ u, P u → P u.takeMoves
  write : ∀ u x v, P u → P (u.memWrite x v)
  cells : ∀ u w, P u → CellsOnly u w → P w
  acknowledge : ∀ u (n : Source), P u →
    P (u.store u.platform.addrIf (u.live u.platform.addrIf &&& ~~~ n.mask))
  account : ∀ c u, P u → P (account c u)

theorem StepClosed.reaches {P : State → Prop} (hP : StepClosed P) {l : List Word} {s t : State}
    (hs : P s) (h : Reaches l s t) : P t :=
  h.preserves hP.moves (fun u x v _ => hP.write u x v) hP.cells hs

theorem StepClosed.takeInterrupt {P : State → Prop} (hP : StepClosed P) {s : State} (hs : P s)
    (n : Source) : P (s.takeInterrupt n) := by
  let u : State := { s with ime := false, imePending := false }
  have hu : Reaches [u.sp - 2, u.sp - 1] s u := .cells .refl ⟨rfl, .inl rfl, List.prefix_rfl⟩
  have hpush : P (u.push16 s.pc) :=
    hP.reaches hs (hu.push16 s.pc List.mem_cons_self (List.mem_cons_of_mem _ List.mem_cons_self))
  have hack := hP.acknowledge _ n hpush
  rw [u.push16_platform] at hack
  exact hP.cells _ _ hack ⟨rfl, .inl rfl, List.prefix_rfl⟩

/-- What each kind of change keeps, every step keeps. -/
theorem StepClosed.step {P : State → Prop} (hP : StepClosed P) {s t : State} (hs : P s)
    (h : step s = .next t) : P t := by
  cases stepped_of_step h with
  | idled hu => exact hP.account _ _ (hP.reaches hs hu)
  | dispatched n hu => exact hP.account _ _ (hP.takeInterrupt (hP.reaches hs hu) n)
  | reported op hu =>
    exact hP.account _ _ (hP.cells _ _ (hP.reaches hs hu) ⟨rfl, .inl rfl, List.prefix_append _ _⟩)
  | ran hu hv => exact hP.account _ _ (hP.reaches (hP.reaches hs hu) (exec_reaches hv))

/-! ### Only a move changes a blocked flag (R12, R40) -/

/-- Every move still to come satisfies `Q`. -/
def State.MovesAll (Q : Move → Prop) (s : State) : Prop := ∀ batch ∈ s.moves, ∀ m ∈ batch, Q m

theorem State.MovesAll.tail {Q : Move → Prop} {s t : State} (h : s.MovesAll Q)
    (ht : t.moves = s.moves.tail) : t.MovesAll Q :=
  fun batch hb => h batch (List.mem_of_mem_tail (ht ▸ hb))

theorem State.MovesAll.head {Q : Move → Prop} {s : State} (h : s.MovesAll Q) :
    ∀ m ∈ s.moves.headD [], Q m := by
  unfold State.MovesAll at h
  cases hs : s.moves with
  | nil => exact nofun
  | cons batch rest => exact h batch (hs ▸ List.mem_cons_self)

theorem State.applyMoves_proj {α : Type} {g : State → α} {Q : Move → Prop}
    (hg : ∀ s m, Q m → g (s.applyMove m) = g s) (ms : List Move) (s : State)
    (hms : ∀ m ∈ ms, Q m) : g (s.applyMoves ms) = g s := by
  induction ms generalizing s with
  | nil => rfl
  | cons m ms ih =>
    obtain ⟨hm, hms⟩ := List.forall_mem_cons.1 hms
    exact (ih _ hms).trans (hg s m hm)

/-- A reading `g` of the two blocked flags that no move satisfying `Q` changes keeps its value for as
long as every move to come satisfies `Q`. -/
theorem stepClosed_of_movesAll {g : Bool → Bool → Bool} {Q : Move → Prop}
    (hmove : ∀ (s : State) m, Q m →
      g (s.applyMove m).vramBlocked (s.applyMove m).oamBlocked = g s.vramBlocked s.oamBlocked)
    (b : Bool) :
    StepClosed fun u => g u.vramBlocked u.oamBlocked = b ∧ u.MovesAll Q where
  moves u hu := by
    obtain ⟨hg, hall⟩ := hu
    refine ⟨?_, hall.tail u.takeMoves_moves⟩
    rw [u.takeMoves_eq]
    exact (State.applyMoves_proj (g := fun w => g w.vramBlocked w.oamBlocked) hmove _ _
      hall.head).trans hg
  write u x v hu := by simpa [State.MovesAll] using hu
  cells u w hu hc := by rw [hc.same]; exact hu
  acknowledge u n hu := hu
  account c u hu := by simpa [State.MovesAll] using hu

theorem step_vramBlocked {s t : State} (h : step s = .next t)
    (hs : s.MovesAll fun m => ∀ b, m ≠ .setVramBlocked b) : t.vramBlocked = s.vramBlocked := by
  refine ((stepClosed_of_movesAll (g := fun v _ => v) (fun u m hm => ?_)
    s.vramBlocked).step ⟨rfl, hs⟩ h).1
  cases m with
  | setVramBlocked b => exact absurd rfl (hm b)
  | setOamBlocked | storeLy | requestVblank | requestLcd | requestJoypad => rfl

theorem step_oamBlocked {s t : State} (h : step s = .next t)
    (hs : s.MovesAll fun m => ∀ b, m ≠ .setOamBlocked b) : t.oamBlocked = s.oamBlocked := by
  refine ((stepClosed_of_movesAll (g := fun _ o => o) (fun u m hm => ?_)
    s.oamBlocked).step ⟨rfl, hs⟩ h).1
  cases m with
  | setOamBlocked b => exact absurd rfl (hm b)
  | setVramBlocked | storeLy | requestVblank | requestLcd | requestJoypad => rfl

/-- Settles O14: a batch is an induction over its moves; a step is made of changes that keep a
blocked flag whenever the scheduled moves do. -/
theorem movesAndBlockedFlags : Obligations.MovesAndBlockedFlags :=
  ⟨fun s => ⟨s.takeMoves_movesOnly, fun _ => s.takeMoves_live, State.takeMoves_if_and⟩,
    fun _ _ h => ⟨step_vramBlocked h, step_oamBlocked h⟩⟩

/-! ### The state after reset (R350 to R354) -/

/-- Settles O51: each part is a value of the reset state, and the kernel computes it; the byte at
address 0 is the boot image's because OVERLAY is set and no region reaches that low. -/
theorem resetState : Obligations.ResetState :=
  ⟨rfl, fun _ => rfl, fun _ => rfl, rfl⟩

end Sys2Proof.Machine
end

section
/-!
PROOFS. The machine invariant (10_state.md R22, R37, R41, R45): all of it but the prescaler bounds
is kept by each kind of change a step is made of, and the accounting part that ends every step brings
the prescalers below their periods whatever they were.
-/

namespace Sys2Proof.Machine

open Sys2Proof

/-! ### Storage below 0x8000 (R41) -/

/-- A write above ROM_TOP lists no address of the ROM range. -/
theorem Memory.aboveRom_write {m : Memory} {x : Nat} (h : m.aboveRom = true)
    (hx : romTop.toNat < x) (w : Byte) : (m.write x w).aboveRom = true := by
  simp only [Memory.aboveRom, List.all_eq_true, decide_eq_true_eq] at h ⊢
  intro c hc
  rcases Memory.mem_write hc with hc | hc
  · exact h c hc
  · exact hc ▸ hx

/-! ### The part of the invariant that every change keeps -/

/-- The invariant without the bounds of the two prescalers. -/
def State.Sound (s : State) : Prop :=
  s.platform.wf = true ∧ s.mem.wf = true ∧ s.mem.aboveRom = true ∧
  s.platform.bootImage.wf = true ∧ s.platform.cartImage.wf = true ∧
  s.f &&& 0x0F = 0 ∧ (s.live s.platform.addrSc).getLsbD 7 = false

/-- The invariant is its memory part and the bounds of the two prescalers (R45). -/
theorem State.inv_iff (s : State) : s.Inv ↔ s.Sound ∧ s.divPre < s.platform.divPeriod ∧
    (timaEnabled s = true → s.timaPre < timaPeriodOf s) := by
  unfold State.Inv State.Sound
  tauto

theorem State.Sound.platform_wf {s : State} (h : s.Sound) : s.platform.wf = true := h.1

/-- A store above ROM_TOP that leaves bit 7 of SC at 0. -/
theorem State.Sound.store {s : State} (h : s.Sound) {x : Word} {v : Byte} (hx : romTop < x)
    (hsc : x = s.platform.addrSc → v.getLsbD 7 = false) : (s.store x v).Sound := by
  obtain ⟨hp, hm, habove, hboot, hcart, hf, hbit⟩ := h
  refine ⟨hp, State.store_mem_wf hm x v, Memory.aboveRom_write habove hx v, hboot, hcart, hf, ?_⟩
  by_cases he : x = s.platform.addrSc
  · rw [State.store_platform, ← he, State.store_live_same hm]
    exact hsc he
  · rw [State.store_platform, State.store_live_other s v (Ne.symm he)]
    exact hbit

/-- A store to a register other than SC. -/
theorem State.Sound.storeRegister {s : State} (h : s.Sound) (i : Fin 10) (hi : i ≠ 1) (v : Byte) :
    (s.store (s.platform.registers[i]'(by simp [Platform.registers])) v).Sound :=
  h.store (Platform.wf_above h.platform_wf (List.getElem_mem _))
    fun e => absurd e (Platform.wf_ne h.platform_wf i 1 hi)

theorem State.Sound.requestInterrupt {s : State} (h : s.Sound) (n : Source) :
    (s.requestInterrupt n).Sound := h.storeRegister 6 (by decide) _

/-- Bit 7 of a byte masked with 0x7F. -/
theorem and_7F_bit7 (v : Byte) : (v &&& 0x7F).getLsbD 7 = false := by
  rw [BitVec.getLsbD_and]
  exact Bool.and_false _

theorem State.Sound.applyMove {s : State} (h : s.Sound) (m : Move) : (s.applyMove m).Sound := by
  cases m with
  | setVramBlocked | setOamBlocked => exact h
  | storeLy v => exact h.storeRegister 7 (by decide) v
  | requestVblank | requestLcd | requestJoypad => exact h.requestInterrupt _

theorem State.Sound.applyMoves {s : State} (h : s.Sound) (ms : List Move) :
    (s.applyMoves ms).Sound := by
  induction ms generalizing s with
  | nil => exact h
  | cons m ms ih => exact ih (h.applyMove m)

/-- A write to SC keeps bit 7 at 0 whichever way it goes (R37, R68). -/
theorem State.Sound.writeSc {s : State} (h : s.Sound) (v : Byte) : (s.writeSc v).Sound := by
  have habove : romTop < s.platform.addrSc :=
    Platform.wf_above h.platform_wf (by simp [Platform.registers])
  unfold State.writeSc
  split
  · exact (State.Sound.requestInterrupt (s := { s with serialOut := _ }) h .serial).store habove
      fun _ => and_7F_bit7 v
  next hv => exact h.store habove fun _ => Bool.eq_false_of_not_eq_true hv

theorem State.Sound.writeDiv {s : State} (h : s.Sound) : s.writeDiv.Sound := by
  unfold State.writeDiv
  dsimp only
  split <;> exact h.storeRegister 2 (by decide) 0x00

/-- A store through the contract is dropped, is one of the three with a rule of their own, or stores
the byte above ROM_TOP (R64). -/
theorem State.memWrite_cases {P : State → Prop} {s : State} {x : Word} {v : Byte} (hdrop : P s)
    (hboot : x = s.platform.addrBootOff → P (s.writeBootOff v))
    (hsc : x = s.platform.addrSc → P (s.writeSc v)) (hdiv : x = s.platform.addrDiv → P s.writeDiv)
    (hstore : romTop < x → (x = s.platform.addrSc → x = s.platform.addrSb) → P (s.store x v)) :
    P (s.memWrite x v) := by
  unfold State.memWrite
  split_ifs with hrom hoam hvram hxboot hxsb hxsc hxdiv
  · exact hdrop
  · exact hdrop
  · exact hdrop
  · exact hboot hxboot
  · exact hxsb ▸ hstore (BitVec.not_le.mp hrom) fun _ => hxsb
  · exact hsc hxsc
  · exact hdiv hxdiv
  · exact hstore (BitVec.not_le.mp hrom) fun e => absurd e hxsc

theorem State.Sound.memWrite {s : State} (h : s.Sound) (x : Word) (v : Byte) :
    (s.memWrite x v).Sound := by
  have hlatch : State.Sound { s with overlay := false } := h
  have hne : s.platform.addrSc ≠ s.platform.addrSb := Platform.wf_ne h.platform_wf 1 0 (by decide)
  exact State.memWrite_cases h (fun _ => hlatch.storeRegister 8 (by decide) v)
    (fun _ => h.writeSc v) (fun _ => h.writeDiv)
    fun hx hsb => h.store hx fun e => absurd (e.symm.trans (hsb e)) hne

theorem State.Sound.cells {s t : State} (h : s.Sound) (hc : CellsOnly s t) : t.Sound := by
  obtain ⟨hp, hm, habove, hboot, hcart, hf, hbit⟩ := h
  have hnibble : t.f &&& 0x0F = 0 := hc.nibble.elim (fun e => e.trans hf) id
  rw [hc.same]
  exact ⟨hp, hm, habove, hboot, hcart, hnibble, hbit⟩

theorem State.Sound.divTick {s : State} (h : s.Sound) : (divTick s).Sound :=
  h.storeRegister 2 (by decide) _

theorem State.Sound.divAdvance {s : State} (h : s.Sound) (c : Nat) : (divAdvance c s).Sound := by
  have hrounds : ∀ n, (rounds n Machine.divTick s).Sound := fun n =>
    rounds_inv (P := State.Sound) (fun _ hu => hu.divTick) n s h
  exact hrounds _

theorem State.Sound.timaTick {s : State} (h : s.Sound) : (timaTick s).Sound := by
  unfold Machine.timaTick
  split
  · exact State.Sound.requestInterrupt (h.storeRegister 3 (by decide) _) .timer
  · exact h.storeRegister 3 (by decide) _

theorem State.Sound.timaAdvance {s : State} (h : s.Sound) (c : Nat) : (timaAdvance c s).Sound := by
  have hrounds : ∀ n, (rounds n Machine.timaTick s).Sound := fun n =>
    rounds_inv (P := State.Sound) (fun _ hu => hu.timaTick) n s h
  unfold Machine.timaAdvance
  split
  · exact hrounds _
  · exact h

theorem State.Sound.stepClosed : StepClosed State.Sound where
  moves u hu := by
    have htail : State.Sound { u with moves := u.moves.tail } := hu
    rw [State.takeMoves_eq]
    exact htail.applyMoves _
  write _ x v hu := hu.memWrite x v
  cells _ _ hu hc := hu.cells hc
  acknowledge _ _ hu := hu.storeRegister 6 (by decide) _
  account c u hu := by
    have hcycles : State.Sound { u with cycles := u.cycles + c } := hu
    unfold Machine.account timerAdvance
    exact (hcycles.divAdvance c).timaAdvance c

/-! ### The prescalers after the accounting part (R45, R311, R312) -/

theorem timaPeriod_pos (rate : BitVec 2) : 0 < timaPeriod rate := by
  revert rate
  decide

/-- TAC is as it was after the timer counter has advanced, so the timer still has its period. -/
theorem timaAdvance_tac {s : State} (hp : s.platform.wf = true) (c : Nat) :
    (timaAdvance c s).live s.platform.addrTac = s.live s.platform.addrTac :=
  timaAdvance_live_other c s (Platform.wf_ne hp 5 3 (by decide)) (Platform.wf_ne hp 5 6 (by decide))

theorem timaEnabled_timaAdvance {s : State} (hp : s.platform.wf = true) (c : Nat) :
    timaEnabled (timaAdvance c s) = timaEnabled s := by
  simp only [timaEnabled, timaAdvance_platform, timaAdvance_tac hp]

theorem timaPeriodOf_timaAdvance {s : State} (hp : s.platform.wf = true) (c : Nat) :
    timaPeriodOf (timaAdvance c s) = timaPeriodOf s := by
  simp only [timaPeriodOf, timaAdvance_platform, timaAdvance_tac hp]

/-- The timer counter's prescaler keeps the remainder while the timer is enabled (R312). -/
theorem timaAdvance_timaPre (c : Nat) (s : State) : (timaAdvance c s).timaPre =
    if timaEnabled s then (s.timaPre + c) % timaPeriodOf s else s.timaPre := by
  unfold timaAdvance
  split <;> rfl

theorem timaAdvance_timaPre_lt {s : State} (hp : s.platform.wf = true) (c : Nat)
    (he : timaEnabled (timaAdvance c s) = true) :
    (timaAdvance c s).timaPre < timaPeriodOf (timaAdvance c s) := by
  rw [timaEnabled_timaAdvance hp] at he
  rw [timaPeriodOf_timaAdvance hp, timaAdvance_timaPre, if_pos he]
  exact Nat.mod_lt _ (timaPeriod_pos _)

/-- DIV's prescaler keeps the remainder (R311). -/
@[simp] theorem divAdvance_divPre (c : Nat) (s : State) :
    (divAdvance c s).divPre = (s.divPre + c) % s.platform.divPeriod := rfl

@[simp] theorem account_divPre (c : Nat) (s : State) :
    (account c s).divPre = (s.divPre + c) % s.platform.divPeriod := by
  simp [account, timerAdvance]

/-- After the accounting part both prescalers are below their periods, whatever they were. -/
theorem account_prescalers {s : State} (hp : s.platform.wf = true) (c : Nat) :
    (account c s).divPre < (account c s).platform.divPeriod ∧
    (timaEnabled (account c s) = true → (account c s).timaPre < timaPeriodOf (account c s)) := by
  constructor
  · rw [account_divPre, account_platform]
    exact Nat.mod_lt _ (Platform.wf_divPeriod hp)
  · have hdiv : (divAdvance c { s with cycles := s.cycles + c }).platform.wf = true := by
      rw [divAdvance_platform]
      exact hp
    exact timaAdvance_timaPre_lt hdiv c

/-- Every step ends in the accounting part (R120). -/
theorem Stepped.exists_account {s t : State} (h : Stepped s t) : ∃ c u, t = account c u := by
  cases h <;> exact ⟨_, _, rfl⟩

/-- Settles O53: every change a step is made of keeps the memory part of the invariant, and the
accounting part, with which every step ends, brings the prescalers below their periods. -/
theorem stepKeepsInvariant : Obligations.StepKeepsInvariant := by
  intro s t hs h
  have hsound : t.Sound := State.Sound.stepClosed.step ((State.inv_iff s).1 hs).1 h
  obtain ⟨c, u, rfl⟩ := (stepped_of_step h).exists_account
  have hp : u.platform.wf = true := by simpa using hsound.platform_wf
  exact (State.inv_iff _).2 ⟨hsound, account_prescalers hp c⟩

/-- Settles O52: each part of the invariant is a fact about the reset state, which computes. -/
theorem invariantAtReset : Obligations.InvariantAtReset := by
  unfold Obligations.InvariantAtReset State.Inv
  decide

end Sys2Proof.Machine
end

section
/-!
PROOFS. The register cells and F (10_state.md R20 to R26), and the stores to SC and DIV
(20_memory.md R68, R69).
-/

namespace Sys2Proof.Machine

open Sys2Proof

/-! ### Pairs and the flag byte (R21, R26) -/

/-- A word is its high byte times 256 plus its low byte (R21). -/
theorem word_toNat (lo hi : Byte) : (word lo hi).toNat = 256 * hi.toNat + lo.toNat := by
  have hlo : lo.toNat < 2 ^ 8 := lo.isLt
  have happend : (word lo hi).toNat = hi.toNat <<< 8 ||| lo.toNat := BitVec.toNat_append hi lo
  rw [happend, ← Nat.shiftLeft_add_eq_or_of_lt hlo, Nat.shiftLeft_eq, Nat.mul_comm]

/-- Settles O8: a pair's value is that of `word`; each update and each code is the definition's. -/
theorem registerCellsAndPairs : Obligations.RegisterCellsAndPairs := by
  refine ⟨fun s => ?_, fun _ _ => ⟨rfl, rfl, rfl, rfl⟩,
    fun _ _ => ⟨rfl, rfl, rfl, rfl, rfl, rfl, rfl⟩, fun _ => ⟨rfl, rfl, rfl, rfl, rfl, rfl, rfl⟩,
    rfl⟩
  exact ⟨word_toNat _ _, word_toNat _ _, word_toNat _ _, word_toNat _ _⟩

/-- Bit by bit, F packed from four flags: C, H, N and Z from bit 4 up, over the old low nibble. -/
theorem packFlags_getLsbD (x : Flags) (f : Byte) (i : Nat) : (packFlags x f).getLsbD i =
    if i < 4 then (f.extractLsb' 0 4).getLsbD i
    else if i - 4 < 1 then (BitVec.ofBool x.c).getLsbD (i - 4)
    else if i - 4 - 1 < 1 then (BitVec.ofBool x.h).getLsbD (i - 4 - 1)
    else if i - 4 - 1 - 1 < 1 then (BitVec.ofBool x.n).getLsbD (i - 4 - 1 - 1)
    else (BitVec.ofBool x.z).getLsbD (i - 4 - 1 - 1 - 1) := by
  unfold packFlags
  rw [BitVec.getLsbD_append, BitVec.getLsbD_append, BitVec.getLsbD_append, BitVec.getLsbD_append]

/-- The four flags are read back from the byte they are packed into. -/
theorem flagsOf_packFlags (x : Flags) (f : Byte) : flagsOf (packFlags x f) = x := by
  obtain ⟨z, n, h, c⟩ := x
  simp only [flagsOf, flagZ, flagN, flagH, flagC, packFlags_getLsbD]
  cases z <;> cases n <;> cases h <;> cases c <;> rfl

/-- Settles O9: each flag is read back from the packed byte by its bit, and packing keeps the low
nibble. -/
theorem flagBitsOfF : Obligations.FlagBitsOfF :=
  ⟨fun _ => ⟨rfl, rfl, rfl, rfl⟩,
    fun x f => by
      have h := flagsOf_packFlags x f
      exact ⟨congrArg Flags.z h, congrArg Flags.n h, congrArg Flags.h h, congrArg Flags.c h,
        packFlags_nibble x f⟩,
    fun s hs => by
      obtain ⟨⟨_, _, _, _, _, hnibble, _⟩, _⟩ := (State.inv_iff s).1 hs
      exact hnibble⟩

/-! ### Stores to SC and DIV (R68, R69) -/

/-- Outside the ROM range and the blocked regions a store reaches its register (R64). -/
theorem State.memWrite_eq_of_not_blocked {s : State} {x : Word} (hx : romTop < x)
    (hb : s.blocked x = false) (v : Byte) : s.memWrite x v =
      if x = s.platform.addrBootOff then s.writeBootOff v
      else if x = s.platform.addrSb then s.store s.platform.addrSb v
      else if x = s.platform.addrSc then s.writeSc v
      else if x = s.platform.addrDiv then s.writeDiv
      else s.store x v := by
  obtain ⟨hoam, hvram⟩ := Bool.or_eq_false_iff.1 hb
  unfold State.memWrite
  rw [if_neg (BitVec.not_le.2 hx), hoam, hvram]
  rfl

theorem State.memWrite_addrSc {s : State} (hp : s.platform.wf = true)
    (hb : s.blocked s.platform.addrSc = false) (v : Byte) :
    s.memWrite s.platform.addrSc v = s.writeSc v := by
  have hx : romTop < s.platform.addrSc := Platform.wf_above hp (by simp [Platform.registers])
  have hboot : s.platform.addrSc ≠ s.platform.addrBootOff := Platform.wf_ne hp 1 8 (by decide)
  have hsb : s.platform.addrSc ≠ s.platform.addrSb := Platform.wf_ne hp 1 0 (by decide)
  rw [State.memWrite_eq_of_not_blocked hx hb, if_neg hboot, if_neg hsb, if_pos rfl]

theorem State.memWrite_addrDiv {s : State} (hp : s.platform.wf = true)
    (hb : s.blocked s.platform.addrDiv = false) (v : Byte) :
    s.memWrite s.platform.addrDiv v = s.writeDiv := by
  have hx : romTop < s.platform.addrDiv := Platform.wf_above hp (by simp [Platform.registers])
  have hboot : s.platform.addrDiv ≠ s.platform.addrBootOff := Platform.wf_ne hp 2 8 (by decide)
  have hsb : s.platform.addrDiv ≠ s.platform.addrSb := Platform.wf_ne hp 2 0 (by decide)
  have hsc : s.platform.addrDiv ≠ s.platform.addrSc := Platform.wf_ne hp 2 1 (by decide)
  rw [State.memWrite_eq_of_not_blocked hx hb, if_neg hboot, if_neg hsb, if_neg hsc, if_pos rfl]

/-- A serial transfer changes `mem` and `SERIAL_OUT` alone (R68). -/
theorem State.writeSc_frame (s : State) (v : Byte) :
    s.writeSc v = { s with mem := (s.writeSc v).mem, serialOut := (s.writeSc v).serialOut } := by
  unfold State.writeSc
  split <;> rfl

/-- With bit 7 of the byte set: the byte of SB goes out, interrupt 3 is requested, and the byte is
stored with bit 7 clear (R68). -/
theorem State.writeSc_transfer {s : State} (hp : s.platform.wf = true) (hm : s.mem.wf = true)
    {v : Byte} (hv : v.getLsbD 7 = true) :
    (s.writeSc v).serialOut = s.serialOut ++ [s.live s.platform.addrSb] ∧
    (s.writeSc v).live s.platform.addrSc = v &&& 0x7F ∧
    (s.writeSc v).live s.platform.addrIf = s.live s.platform.addrIf ||| 0x08 ∧
    ∀ x : Word, x ≠ s.platform.addrSc → x ≠ s.platform.addrIf →
      (s.writeSc v).live x = s.live x := by
  let u : State := { s with serialOut := s.serialOut ++ [s.live s.platform.addrSb] }
  have hwrite : s.writeSc v = (u.requestInterrupt .serial).store s.platform.addrSc (v &&& 0x7F) :=
    if_pos hv
  have hifsc : s.platform.addrIf ≠ s.platform.addrSc := Platform.wf_ne hp 6 1 (by decide)
  have hreq : (u.requestInterrupt .serial).mem.wf = true := State.store_mem_wf (s := u) hm _ _
  rw [hwrite]
  refine ⟨rfl, State.store_live_same hreq _ _, ?_, fun x hsc hif => ?_⟩
  · rw [State.store_live_other _ _ hifsc]
    exact State.store_live_same (s := u) hm _ _
  · rw [State.store_live_other _ _ hsc]
    exact State.store_live_other u _ hif

/-- With bit 7 of the byte clear the byte is stored and that is all (D14). -/
theorem State.writeSc_plain (s : State) {v : Byte} (hv : v.getLsbD 7 = false) :
    s.writeSc v = s.store s.platform.addrSc v := by
  rw [State.writeSc, hv]
  rfl

/-- A store to DIV stores 0x00 and, where the platform says so, clears the prescaler (R69). -/
theorem State.writeDiv_eq (s : State) : s.writeDiv = { s with
    mem := s.mem.write s.platform.addrDiv.toNat 0x00
    divPre := if s.platform.divWriteClearsPrescaler then 0 else s.divPre } := by
  unfold State.writeDiv
  dsimp only
  split <;> rfl

/-- Settles O12: outside a blocked region the store is `writeSc` or `writeDiv`, and what each of the
two does is said above. -/
theorem serialAndDividerWrites : Obligations.SerialAndDividerWrites := by
  intro s v hp hm
  refine ⟨fun hb => ?_, fun hb => ?_⟩
  · rw [State.memWrite_addrSc hp hb]
    refine ⟨s.writeSc_frame v, State.writeSc_transfer hp hm, fun hv => ?_⟩
    rw [s.writeSc_plain hv]
    exact ⟨rfl, State.store_live_same hm _ v, fun x hx => State.store_live_other s v hx⟩
  · rw [State.memWrite_addrDiv hp hb, s.writeDiv_eq]
    exact ⟨State.store_live_same hm _ 0x00, fun x hx => State.store_live_other s 0x00 hx, rfl⟩

end Sys2Proof.Machine
end

section
/-!
PROOFS. The divider and the timer counter (60_exceptions.md R310 to R312) and the accounting part of
a driver step (40_engine.md R120, R133): what the loops of R311 and R312 come to.
-/

namespace Sys2Proof.Machine

open Sys2Proof

/-! ### Two writes of one byte -/

/-- Writing the byte that is there changes nothing. -/
theorem Memory.write_read_self {m : Memory} (h : m.wf = true) {x : Nat} (hx : x < memSize) :
    m.write x (m.read x) = m := by
  refine Memory.ext_of_wf (Memory.wf_write h hx) h fun y => ?_
  by_cases hy : y = x
  · rw [hy, Memory.read_write_same_of_wf m x _ h]
  · exact Memory.read_write_other m _ hy

/-- Of two writes of one byte the second counts. -/
theorem Memory.write_write {m : Memory} (h : m.wf = true) {x : Nat} (hx : x < memSize)
    (v w : Byte) : (m.write x v).write x w = m.write x w := by
  have hv := Memory.wf_write (w := v) h hx
  refine Memory.ext_of_wf (Memory.wf_write hv hx) (Memory.wf_write h hx) fun y => ?_
  by_cases hy : y = x
  · rw [hy, Memory.read_write_same_of_wf _ x w hv, Memory.read_write_same_of_wf m x w h]
  · rw [Memory.read_write_other _ w hy, Memory.read_write_other _ v hy,
      Memory.read_write_other _ w hy]

theorem State.store_live_self {s : State} (h : s.mem.wf = true) (x : Word) :
    s.store x (s.live x) = s :=
  congrArg (fun m => { s with mem := m }) (Memory.write_read_self h x.isLt)

theorem State.store_store {s : State} (h : s.mem.wf = true) (x : Word) (v w : Byte) :
    (s.store x v).store x w = s.store x w :=
  congrArg (fun m => { s with mem := m }) (Memory.write_write h x.isLt v w)

/-! ### What a loop of increments leaves unchanged -/

/-- Rounds of a change of `mem` change `mem` alone. -/
theorem rounds_frame {f : State → State} (hf : ∀ s, f s = { s with mem := (f s).mem }) (n : Nat)
    (s : State) : rounds n f s = { s with mem := (rounds n f s).mem } := by
  induction n generalizing s with
  | zero => rfl
  | succ n ih =>
    exact (ih (f s)).trans
      (congrArg (fun u : State => { u with mem := (rounds n f (f s)).mem }) (hf s))

theorem timaTick_frame (s : State) : timaTick s = { s with mem := (timaTick s).mem } := by
  unfold timaTick
  split <;> rfl

/-- Advancing the divider changes `mem` and `DIV_PRE` alone (R311). -/
theorem divAdvance_frame (c : Nat) (s : State) : divAdvance c s =
    { s with mem := (divAdvance c s).mem, divPre := (divAdvance c s).divPre } :=
  congrArg (fun u : State => { u with divPre := (divAdvance c s).divPre })
    (rounds_frame (f := divTick) (fun _ => rfl) _ s)

/-- Advancing the timer counter changes `mem` and `TIMA_PRE` alone (R312). -/
theorem timaAdvance_frame (c : Nat) (s : State) : timaAdvance c s =
    { s with mem := (timaAdvance c s).mem, timaPre := (timaAdvance c s).timaPre } := by
  unfold timaAdvance
  split
  · exact congrArg (fun u : State => { u with timaPre := (s.timaPre + c) % timaPeriodOf s })
      (rounds_frame timaTick_frame _ s)
  · rfl

/-- The accounting part changes `mem`, the prescalers and `CYCLES` alone (R133). -/
theorem account_frame (c : Nat) (s : State) : account c s =
    { s with
      mem := (account c s).mem, divPre := (s.divPre + c) % s.platform.divPeriod
      timaPre := (account c s).timaPre, cycles := s.cycles + c } :=
  let u : State := { s with cycles := s.cycles + c }
  (timaAdvance_frame c (divAdvance c u)).trans
    (congrArg (fun w : State =>
      { w with mem := (account c s).mem, timaPre := (account c s).timaPre }) (divAdvance_frame c u))

/-! ### The divider (R311) -/

/-- n increments of DIV add n to it (R311). -/
theorem rounds_divTick (n : Nat) {s : State} (h : s.mem.wf = true) : rounds n divTick s =
    s.store s.platform.addrDiv (s.live s.platform.addrDiv + BitVec.ofNat 8 n) := by
  induction n generalizing s with
  | zero =>
    rw [BitVec.add_zero, State.store_live_self h]
    rfl
  | succ n ih =>
    have hsum : s.live s.platform.addrDiv + 1 + BitVec.ofNat 8 n =
        s.live s.platform.addrDiv + BitVec.ofNat 8 (n + 1) := by
      rw [BitVec.add_assoc, Nat.add_comm n 1, BitVec.ofNat_add]
      rfl
    rw [rounds, divTick, ih (State.store_mem_wf h _ _), State.store_platform,
      State.store_live_same h, State.store_store h, hsum]

theorem divAdvance_eq {s : State} (h : s.mem.wf = true) (c : Nat) : divAdvance c s = { s with
    mem := s.mem.write s.platform.addrDiv.toNat
      (s.live s.platform.addrDiv + BitVec.ofNat 8 ((s.divPre + c) / s.platform.divPeriod))
    divPre := (s.divPre + c) % s.platform.divPeriod } := by
  simp only [divAdvance, rounds_divTick _ h]
  rfl

/-! ### The timer counter (R312) -/

/-- The timer counter after it has been counted up to n, with a reload from TMA at each overflow. -/
def timaAfter (tma n : Nat) : Nat := if n ≤ 255 then n else tma + (n - 256) % (256 - tma)

/-- An overflow goes on from TMA (R312). -/
theorem timaAfter_reload {tma : Nat} (h : tma ≤ 255) (n : Nat) :
    timaAfter tma (256 + n) = timaAfter tma (tma + n) := by
  unfold timaAfter
  rw [if_neg (by omega), Nat.add_sub_cancel_left]
  split
  · rw [Nat.mod_eq_of_lt (by omega)]
  · have hround : n = tma + n - 256 + (256 - tma) := by omega
    calc tma + n % (256 - tma)
      _ = tma + (tma + n - 256 + (256 - tma)) % (256 - tma) := by rw [← hround]
      _ = tma + (tma + n - 256) % (256 - tma) := by rw [Nat.add_mod_right]

theorem timaTick_mem_wf {s : State} (h : s.mem.wf = true) : (timaTick s).mem.wf = true := by
  unfold timaTick
  split
  · exact State.store_mem_wf (State.store_mem_wf h _ _) _ _
  · exact State.store_mem_wf h _ _

theorem timaTick_tima {s : State} (hp : s.platform.wf = true) (h : s.mem.wf = true) :
    (timaTick s).live s.platform.addrTima =
      if s.live s.platform.addrTima = 0xFF then s.live s.platform.addrTma
      else s.live s.platform.addrTima + 1 := by
  unfold timaTick
  split
  · have hne : s.platform.addrTima ≠ s.platform.addrIf := Platform.wf_ne hp 3 6 (by decide)
    exact (State.store_live_other _ _ hne).trans (State.store_live_same h _ _)
  · exact State.store_live_same h _ _

theorem timaTick_if {s : State} (hp : s.platform.wf = true) (h : s.mem.wf = true) :
    (timaTick s).live s.platform.addrIf =
      if s.live s.platform.addrTima = 0xFF then s.live s.platform.addrIf ||| 0x04
      else s.live s.platform.addrIf := by
  have hne : s.platform.addrIf ≠ s.platform.addrTima := Platform.wf_ne hp 6 3 (by decide)
  unfold timaTick
  split
  · refine (State.store_live_same (State.store_mem_wf h _ _) _ _).trans ?_
    rw [State.store_platform, State.store_live_other _ _ hne]
    rfl
  · exact State.store_live_other _ _ hne

theorem timaTick_tma {s : State} (hp : s.platform.wf = true) :
    (timaTick s).live s.platform.addrTma = s.live s.platform.addrTma :=
  timaTick_live_other s (Platform.wf_ne hp 4 3 (by decide)) (Platform.wf_ne hp 4 6 (by decide))

/-- TIMA and IF after n increments (R312). -/
theorem rounds_timaTick_live (n : Nat) {s : State} (hp : s.platform.wf = true)
    (h : s.mem.wf = true) :
    ((rounds n timaTick s).live s.platform.addrTima).toNat =
      timaAfter (s.live s.platform.addrTma).toNat ((s.live s.platform.addrTima).toNat + n) ∧
    (rounds n timaTick s).live s.platform.addrIf =
      if (s.live s.platform.addrTima).toNat + n ≤ 255 then s.live s.platform.addrIf
      else s.live s.platform.addrIf ||| 0x04 := by
  induction n generalizing s with
  | zero =>
    have hle : (s.live s.platform.addrTima).toNat + 0 ≤ 255 :=
      Nat.le_of_lt_succ (s.live s.platform.addrTima).isLt
    rw [timaAfter, if_pos hle, if_pos hle]
    exact ⟨rfl, rfl⟩
  | succ n ih =>
    obtain ⟨htima, hif⟩ := ih (s := timaTick s) (by simpa using hp) (timaTick_mem_wf h)
    rw [timaTick_platform, timaTick_tima hp h] at htima hif
    rw [timaTick_tma hp] at htima
    rw [timaTick_if hp h] at hif
    rw [rounds, htima, hif]
    have htma : (s.live s.platform.addrTma).toNat ≤ 255 :=
      Nat.le_of_lt_succ (s.live s.platform.addrTma).isLt
    by_cases hff : s.live s.platform.addrTima = 0xFF
    · have hlast : (s.live s.platform.addrTima).toNat = 255 := by rw [hff]; rfl
      rw [if_pos hff, if_pos hff, hlast, show 255 + (n + 1) = 256 + n by omega,
        timaAfter_reload htma, if_neg (show ¬ 256 + n ≤ 255 by omega)]
      refine ⟨rfl, ?_⟩
      split
      · rfl
      · rw [BitVec.or_assoc, BitVec.or_self]
    · have hnext : (s.live s.platform.addrTima + 1).toNat =
          (s.live s.platform.addrTima).toNat + 1 := by
        bv_omega
      rw [if_neg hff, if_neg hff, hnext, Nat.add_assoc, Nat.add_comm 1 n]
      exact ⟨rfl, rfl⟩

/-- TIMA after the advance: the count of whole periods is added while the timer is enabled. -/
theorem timaAdvance_tima {s : State} (hp : s.platform.wf = true) (h : s.mem.wf = true) (c : Nat) :
    ((timaAdvance c s).live s.platform.addrTima).toNat =
      if timaEnabled s then timaAfter (s.live s.platform.addrTma).toNat
        ((s.live s.platform.addrTima).toNat + (s.timaPre + c) / timaPeriodOf s)
      else (s.live s.platform.addrTima).toNat := by
  unfold timaAdvance
  split
  · exact (rounds_timaTick_live _ hp h).1
  · rfl

/-- IF after the advance: interrupt 2 is requested when the count goes past 255. -/
theorem timaAdvance_if {s : State} (hp : s.platform.wf = true) (h : s.mem.wf = true) (c : Nat) :
    (timaAdvance c s).live s.platform.addrIf =
      if timaEnabled s ∧ 255 < (s.live s.platform.addrTima).toNat + (s.timaPre + c) / timaPeriodOf s
      then s.live s.platform.addrIf ||| 0x04 else s.live s.platform.addrIf := by
  unfold timaAdvance
  split
  next he =>
    refine (rounds_timaTick_live _ hp h).2.trans ?_
    simp only [he, true_and, ← Nat.not_le, ite_not]
  next he => rw [if_neg fun hand => he hand.1]

/-- As long as the count stays in a byte TIMA holds it and nothing is requested (R312). -/
theorem timaAdvance_no_overflow {s : State} (hp : s.platform.wf = true) (hm : s.mem.wf = true)
    {c : Nat} (hon : timaEnabled s = true)
    (hle : (s.live s.platform.addrTima).toNat + (s.timaPre + c) / timaPeriodOf s ≤ 255) :
    ((timaAdvance c s).live s.platform.addrTima).toNat =
      (s.live s.platform.addrTima).toNat + (s.timaPre + c) / timaPeriodOf s ∧
    (timaAdvance c s).live s.platform.addrIf = s.live s.platform.addrIf := by
  constructor
  · rw [timaAdvance_tima hp hm, if_pos hon, timaAfter, if_pos hle]
  · rw [timaAdvance_if hp hm, if_neg fun hand => absurd hle (Nat.not_le.2 hand.2)]

/-- Past a byte TIMA has gone on from TMA and interrupt 2 is requested (R312). -/
theorem timaAdvance_overflow {s : State} (hp : s.platform.wf = true) (hm : s.mem.wf = true)
    {c : Nat} (hon : timaEnabled s = true)
    (hlt : 255 < (s.live s.platform.addrTima).toNat + (s.timaPre + c) / timaPeriodOf s) :
    ((timaAdvance c s).live s.platform.addrTima).toNat = (s.live s.platform.addrTma).toNat +
      ((s.live s.platform.addrTima).toNat + (s.timaPre + c) / timaPeriodOf s - 256) %
        (256 - (s.live s.platform.addrTma).toNat) ∧
    (timaAdvance c s).live s.platform.addrIf = s.live s.platform.addrIf ||| 0x04 := by
  constructor
  · rw [timaAdvance_tima hp hm, if_pos hon, timaAfter, if_neg (Nat.not_le.2 hlt)]
  · rw [timaAdvance_if hp hm, if_pos ⟨hon, hlt⟩]

/-- The frame of the advance while the timer is enabled (R312). -/
theorem timaAdvance_frame_of_enabled {s : State} (hon : timaEnabled s = true) (c : Nat) :
    timaAdvance c s = { s with
      mem := (timaAdvance c s).mem, timaPre := (s.timaPre + c) % timaPeriodOf s } := by
  have hframe := timaAdvance_frame c s
  rwa [timaAdvance_timaPre, if_pos hon] at hframe

/-- The advance of the timer counter reads TIMA, TMA, TAC, IF and `TIMA_PRE` only: two states that
differ in no live byte but DIV are advanced alike. -/
theorem timaAdvance_congr {s w : State} (hp : s.platform.wf = true) (hs : s.mem.wf = true)
    (hw : w.mem.wf = true) (hplatform : w.platform = s.platform) (hpre : w.timaPre = s.timaPre)
    (hlive : ∀ x : Word, x ≠ s.platform.addrDiv → w.live x = s.live x) (c : Nat) :
    (timaAdvance c w).live s.platform.addrTima = (timaAdvance c s).live s.platform.addrTima ∧
    (timaAdvance c w).live s.platform.addrIf = (timaAdvance c s).live s.platform.addrIf ∧
    (timaAdvance c w).timaPre = (timaAdvance c s).timaPre := by
  have htac : w.live s.platform.addrTac = s.live s.platform.addrTac :=
    hlive _ (Platform.wf_ne hp 5 2 (by decide))
  have htima : w.live s.platform.addrTima = s.live s.platform.addrTima :=
    hlive _ (Platform.wf_ne hp 3 2 (by decide))
  have htma : w.live s.platform.addrTma = s.live s.platform.addrTma :=
    hlive _ (Platform.wf_ne hp 4 2 (by decide))
  have hif : w.live s.platform.addrIf = s.live s.platform.addrIf :=
    hlive _ (Platform.wf_ne hp 6 2 (by decide))
  have henabled : timaEnabled w = timaEnabled s := by rw [timaEnabled, hplatform, htac, timaEnabled]
  have hperiod : timaPeriodOf w = timaPeriodOf s := by
    rw [timaPeriodOf, hplatform, htac, timaPeriodOf]
  have hpw : w.platform.wf = true := hplatform ▸ hp
  have htimaw := timaAdvance_tima hpw hw c
  have hifw := timaAdvance_if hpw hw c
  rw [hplatform, henabled, hperiod, hpre, htima] at htimaw hifw
  rw [htma] at htimaw
  rw [hif] at hifw
  refine ⟨BitVec.eq_of_toNat_eq ?_, ?_, ?_⟩
  · rw [htimaw, timaAdvance_tima hp hs]
  · rw [hifw, timaAdvance_if hp hs]
  · rw [timaAdvance_timaPre, timaAdvance_timaPre, henabled, hperiod, hpre]

theorem divAdvance_mem_wf {s : State} (h : s.mem.wf = true) (c : Nat) :
    (divAdvance c s).mem.wf = true := by
  rw [divAdvance_eq h]
  exact Memory.wf_write h s.platform.addrDiv.isLt

/-- In the accounting part the timer counter advances as it does alone: DIV is none of what it
reads (R310). -/
theorem account_timer {s : State} (hp : s.platform.wf = true) (hm : s.mem.wf = true) (c : Nat) :
    (account c s).live s.platform.addrTima = (timaAdvance c s).live s.platform.addrTima ∧
    (account c s).live s.platform.addrIf = (timaAdvance c s).live s.platform.addrIf ∧
    (account c s).timaPre = (timaAdvance c s).timaPre :=
  let u : State := { s with cycles := s.cycles + c }
  timaAdvance_congr hp hm (divAdvance_mem_wf (s := u) hm c) (divAdvance_platform c u)
    (divAdvance_timaPre c u) (fun _ hx => divAdvance_live_other c u hx) c

/-- DIV after the accounting part (R311). -/
theorem account_div {s : State} (hp : s.platform.wf = true) (hm : s.mem.wf = true) (c : Nat) :
    ((account c s).live s.platform.addrDiv).toNat =
      ((s.live s.platform.addrDiv).toNat + (s.divPre + c) / s.platform.divPeriod) % 256 := by
  let u : State := { s with cycles := s.cycles + c }
  have htima : s.platform.addrDiv ≠ (divAdvance c u).platform.addrTima := by
    rw [divAdvance_platform]
    exact Platform.wf_ne hp 2 3 (by decide)
  have hif : s.platform.addrDiv ≠ (divAdvance c u).platform.addrIf := by
    rw [divAdvance_platform]
    exact Platform.wf_ne hp 2 6 (by decide)
  have hdiv : (account c s).live s.platform.addrDiv =
      s.live s.platform.addrDiv + BitVec.ofNat 8 ((s.divPre + c) / s.platform.divPeriod) := by
    refine (timaAdvance_live_other c (divAdvance c u) htima hif).trans ?_
    rw [divAdvance_eq (s := u) hm]
    exact Memory.read_write_same_of_wf _ _ _ hm
  rw [hdiv, BitVec.toNat_add, BitVec.toNat_ofNat, Nat.add_mod_mod]

/-- IF after the accounting part is as it was or has gained bit 2 (R312, R313). -/
theorem account_if {s : State} (hp : s.platform.wf = true) (hm : s.mem.wf = true) (c : Nat) :
    (account c s).live s.platform.addrIf = s.live s.platform.addrIf ∨
    (account c s).live s.platform.addrIf = s.live s.platform.addrIf ||| 0x04 := by
  obtain ⟨_, hif, _⟩ := account_timer hp hm c
  rw [hif, timaAdvance_if hp hm]
  split
  · exact .inr rfl
  · exact .inl rfl

/-- Settles O49: the frame of the accounting part is that of the two advances, and the divider's
loop is one addition. -/
theorem accountingAndDivider : Obligations.AccountingAndDivider := by
  intro c s
  refine ⟨account_frame c s, fun x => account_live_other c s, fun hm => ⟨?_, fun hp => ?_⟩⟩
  · exact congrArg (timaAdvance c) (divAdvance_eq (s := { s with cycles := s.cycles + c }) hm c)
  · exact ⟨account_div hp hm c, account_if hp hm c⟩

/-- Settles O50: while the timer is enabled its loop comes to `timaAfter`, and the accounting part
advances it the same way. -/
theorem timerCounts : Obligations.TimerCounts := by
  intro c s hp hm
  refine ⟨fun hoff => ?_, fun hon => ⟨timaAdvance_frame_of_enabled hon c,
    fun x => timaAdvance_live_other c s, timaAdvance_no_overflow hp hm hon,
    timaAdvance_overflow hp hm hon⟩, account_timer hp hm c⟩
  have hdisabled : timaEnabled s = false := hoff
  rw [timaAdvance, hdisabled]
  rfl

end Sys2Proof.Machine
end

section
/-!
PROOFS. The driver step (40_engine.md R107, R120): the row and the bytes that fetching gives, the
step with nothing to dispatch, and what only moves forward.
-/

namespace Sys2Proof

/-! ### Rows of the opcode tables (R100, R104, R107) -/

/-- The row an entry of the base table gives when the two bytes after the opcode are lo and hi. -/
def Entry.row (lo hi : Byte) : Entry → Instr
  | .plain i => i
  | .byte f => f lo
  | .word f => f (Sys2Proof.word lo hi)
  | .marker => prefixedEntry lo

/-- How many bytes an entry of the base table takes (R104). -/
def Entry.length : Entry → Nat
  | .plain _ => 1
  | .byte _ => 2
  | .word _ => 3
  | .marker => 2

/-- The row is an instruction and is encoded in k bytes. -/
def Occupies (i : Instr) (k : Nat) : Bool := i.wellFormed && decide ((encode i).length = k)

theorem occupies_iff {i : Instr} {k : Nat} :
    Occupies i k = true ↔ i.WellFormed ∧ (encode i).length = k := by
  rw [Occupies, Bool.and_eq_true, decide_eq_true_eq]

/-- A prefixed row is 0xCB and its second byte (R113). -/
theorem encode_prefixedEntry (op2 : Byte) : encode (prefixedEntry op2) = [0xCB, op2] := by
  have h : ∀ n : Fin 256, encode (prefixedEntry (BitVec.ofFin n)) = [0xCB, BitVec.ofFin n] := by
    decide +kernel
  exact h op2.toFin

/-- The row of an entry is an instruction in as many bytes as the entry takes; the marker, whose
rows stand in the prefixed table, passes. -/
def Entry.fits (lo hi : Byte) : Entry → Bool
  | .marker => true
  | e => Occupies (e.row lo hi) e.length

/-- The entries of the base table, one by one (R112). -/
theorem baseEntry_fits (op lo hi : Byte) : Entry.fits lo hi (baseEntry op) = true := by
  have h : op = BitVec.ofNat 8 op.toNat := by simp
  have hn := op.isLt
  rw [h]
  generalize op.toNat = n at hn
  change n < 256 at hn
  interval_cases n <;> rfl

/-- Every entry's row is an instruction in as many bytes as the entry takes. -/
theorem baseEntry_occupies (op lo hi : Byte) :
    Occupies ((baseEntry op).row lo hi) (baseEntry op).length = true := by
  have h := baseEntry_fits op lo hi
  generalize baseEntry op = e at h
  cases e with
  | plain | byte | word => exact h
  | marker =>
    exact occupies_iff.2
      ⟨Machine.prefixedEntry_wellFormed lo, congrArg List.length (encode_prefixedEntry lo)⟩

/-- Three bytes always decode, to the row of the first (R107). -/
theorem decode_three (op lo hi : Byte) : decode [op, lo, hi] =
    .ok ((baseEntry op).row lo hi) ([lo, hi].drop ((baseEntry op).length - 1)) := by
  unfold decode
  dsimp only
  cases baseEntry op <;> rfl

end Sys2Proof

namespace Sys2Proof.Machine

open Sys2Proof

/-! ### Fetching (R24, R124) -/

/-- Whatever moves are made between the bytes, the row fetched is the entry's. -/
theorem fetch_fst (s : State) : ∃ lo hi, s.fetch.1 = (baseEntry s.imm8.1).row lo hi := by
  unfold State.fetch
  dsimp only
  split
  next h => exact ⟨0, 0, by rw [h, Entry.row]⟩
  next h => exact ⟨_, 0, by rw [h, Entry.row]⟩
  next h => exact ⟨_, _, by rw [h, Entry.row]⟩
  next h => exact ⟨_, 0, by rw [h, Entry.row]⟩

theorem fetch_wellFormed (s : State) : s.fetch.1.WellFormed := by
  obtain ⟨lo, hi, h⟩ := fetch_fst s
  exact h ▸ (occupies_iff.1 (baseEntry_occupies _ lo hi)).1

theorem imm8_of_nil {s : State} (h : s.moves = []) :
    s.imm8 = (s.memRead s.pc, { s with pc := s.pc + 1 }) := by
  rw [State.imm8, State.busRead, State.takeMoves_of_nil h]

theorem imm8_at_of_nil {s : State} (h : s.moves = []) (x : Word) :
    ({ s with pc := x } : State).imm8 = (s.memRead x, { s with pc := x + 1 }) :=
  imm8_of_nil (s := { s with pc := x }) h

/-- With no move scheduled the bytes fetched are those at PC and after it. -/
theorem fetch_of_nil {s : State} (h : s.moves = []) :
    s.fetch = ((baseEntry (s.memRead s.pc)).row (s.memRead (s.pc + 1)) (s.memRead (s.pc + 2)),
      { s with pc := s.pc + BitVec.ofNat 16 (baseEntry (s.memRead s.pc)).length }) := by
  have h2 : s.pc + 1 + 1 = s.pc + 2 := by bv_omega
  have h3 : s.pc + 2 + 1 = s.pc + 3 := by bv_omega
  unfold State.fetch
  simp only [imm8_of_nil h, imm8_at_of_nil h, h2, h3]
  cases baseEntry (s.memRead s.pc) <;> rfl

/-- With no move scheduled and bytes that decode to i, i is fetched and PC is past its bytes. -/
theorem fetch_of_decode {s : State} {i : Instr} {rest : List Byte} (h : s.moves = [])
    (hd : decode [s.memRead s.pc, s.memRead (s.pc + 1), s.memRead (s.pc + 2)] = .ok i rest) :
    s.fetch = (i, { s with pc := s.pc + BitVec.ofNat 16 (encode i).length }) := by
  rw [decode_three] at hd
  injection hd with hi _
  subst hi
  rw [fetch_of_nil h, (occupies_iff.1 (baseEntry_occupies _ _ _)).2]

/-! ### The step with nothing to dispatch (R120, R306) -/

theorem State.promote_eq (s : State) :
    s.promote = { s with ime := s.ime || s.imePending, imePending := false } := by
  unfold State.promote
  split
  next h => rw [h, Bool.or_true]
  next h =>
    have hoff : s.imePending = false := Bool.eq_false_of_not_eq_true h
    rw [hoff, Bool.or_false]
    exact congrArg (fun b => { s with imePending := b }) hoff

/-- In MODE RUN with no move scheduled and nothing to dispatch a step runs the instruction at PC. -/
theorem step_of_toDispatch_none {s : State} (hmode : s.mode = .run) (hmoves : s.moves = [])
    (hd : s.toDispatch = none) : step s = runInstruction s.promote := by
  rw [step, driverStep, hmode]
  dsimp only
  rw [State.takeMoves_of_nil hmoves, runBoundary, hd]

/-- A row runs unless its opcode byte is one the platform adds to `UNMAPPED` (R114, R120). -/
theorem runInstruction_of_fetch {s u t : State} {i : Instr} (hmoves : s.moves = [])
    (hmapped : s.memRead s.pc ∉ s.platform.moreUnmapped ∨ s.memRead s.pc = 0xCB)
    (hfetch : s.fetch = (i, u)) (ht : exec i u = .next t) :
    runInstruction s = .next (account (s.platform.cost i u.f) t) := by
  have hcond : ¬ (s.memRead s.pc ≠ 0xCB ∧ s.memRead s.pc ∈ s.platform.moreUnmapped) := by tauto
  rw [runInstruction, imm8_of_nil hmoves]
  dsimp only
  rw [if_neg hcond, hfetch]
  dsimp only
  rw [ht]

theorem step_of_decode {s : State} {i : Instr} {rest : List Byte} (hmode : s.mode = .run)
    (hmoves : s.moves = []) (hd : s.toDispatch = none)
    (hmapped : s.memRead s.pc ∉ s.platform.moreUnmapped ∨ s.memRead s.pc = 0xCB)
    (hdecode : decode [s.memRead s.pc, s.memRead (s.pc + 1), s.memRead (s.pc + 2)] = .ok i rest) :
    ∃ t, exec i { s with
        pc := s.pc + BitVec.ofNat 16 (encode i).length
        ime := s.ime || s.imePending, imePending := false } = .next t ∧
      step s = .next (account (s.platform.cost i s.f) t) := by
  let u : State := { s with ime := s.ime || s.imePending, imePending := false }
  refine ⟨_, exec_eq_shape _ _, ?_⟩
  rw [step_of_toDispatch_none hmode hmoves hd, State.promote_eq]
  have hrun := runInstruction_of_fetch (s := u) hmoves hmapped
    (fetch_of_decode (s := u) hmoves hdecode) (exec_eq_shape _ _)
  exact hrun

/-- The platform's counts stand in the place of the table's (R6). -/
theorem Platform.cost_of_lookup_some {p : Platform} {i : Instr} {n m : Nat}
    (h : p.cycleChanges.lookup i.tableNumber = some (n, m)) (f : Byte) :
    p.cost i f = match Machine.cyclesOf i with
      | .one _ => n
      | .branch cc _ _ => if condHolds cc f then n else m := by
  unfold Platform.cost Platform.cyclesOf
  rw [h]
  cases Machine.cyclesOf i <;> rfl

/-- Settles O42: with no move scheduled fetching gives the decoded row, and the driver runs it. -/
theorem stepRunsDecoded : Obligations.StepRunsDecoded :=
  ⟨fun _ _ _ hmode hmoves hd hmapped hdecode => step_of_decode hmode hmoves hd hmapped hdecode,
    fun _ _ f => ⟨fun h => Platform.cost_of_lookup_none h f,
      fun _ _ h => Platform.cost_of_lookup_some h f⟩⟩

/-! ### What only moves forward (R39, R42, R46, R47) -/

/-- t may come after s: the overlay has not come back, the platform is the same, the output streams
have only grown, CYCLES has not shrunk. -/
structure Ahead (s t : State) : Prop where
  overlay : s.overlay = false → t.overlay = false
  platform : t.platform = s.platform
  serialOut : s.serialOut <+: t.serialOut
  reports : s.reports <+: t.reports
  cycles : s.cycles ≤ t.cycles

theorem Ahead.refl (s : State) : Ahead s s := ⟨id, rfl, List.prefix_rfl, List.prefix_rfl, le_rfl⟩

theorem Ahead.trans {s t u : State} (h1 : Ahead s t) (h2 : Ahead t u) : Ahead s u where
  overlay h := h2.overlay (h1.overlay h)
  platform := h2.platform.trans h1.platform
  serialOut := h1.serialOut.trans h2.serialOut
  reports := h1.reports.trans h2.reports
  cycles := h1.cycles.trans h2.cycles

theorem Ahead.takeMoves (s : State) : Ahead s s.takeMoves := by
  constructor <;> simp

theorem Ahead.memWrite (s : State) (x : Word) (v : Byte) : Ahead s (s.memWrite x v) where
  overlay := s.memWrite_overlay_false x v
  platform := s.memWrite_platform x v
  serialOut := s.memWrite_serialOut x v
  reports := by simp
  cycles := by simp

theorem Ahead.cells {s t : State} (h : CellsOnly s t) : Ahead s t := by
  have hreports := h.reports
  rw [h.same]
  exact ⟨id, rfl, List.prefix_rfl, hreports, le_rfl⟩

theorem Ahead.account (c : Nat) (s : State) : Ahead s (account c s) := by
  constructor <;> simp

theorem Ahead.stepClosed (s : State) : StepClosed (Ahead s) where
  moves u hu := hu.trans (.takeMoves u)
  write u x v hu := hu.trans (.memWrite u x v)
  cells _ _ hu hc := hu.trans (.cells hc)
  acknowledge _ _ hu := hu.trans ⟨id, rfl, List.prefix_rfl, List.prefix_rfl, le_rfl⟩
  account c u hu := hu.trans (.account c u)

/-! ### Time moves on (R46, R133) -/

theorem Reaches.cycles {l : List Word} {s t : State} (h : Reaches l s t) : t.cycles = s.cycles :=
  h.preserves (P := fun u => u.cycles = s.cycles) (fun u hu => by simpa using hu)
    (fun u x v _ hu => by simpa using hu)
    (fun u w hu hc => (congrArg State.cycles hc.same).trans hu) rfl

theorem runInstruction_cycles_lt {s t : State} (hp : s.platform.wf = true)
    (h : runInstruction s = .next t) : s.cycles < t.cycles := by
  unfold runInstruction at h
  dsimp only at h
  split at h
  · injection h with h
    subst h
    rw [account_cycles]
    have hcycles : (unmapped s.imm8.1 s.imm8.2).cycles = s.cycles := by simp [unmapped]
    rw [hcycles]
    exact Nat.lt_add_of_pos_right (Platform.unmappedCost_pos hp _)
  · have hne : s.fetch.1 ≠ .prefix_cb := fun e => nomatch e ▸ fetch_wellFormed s
    split at h
    next v hv =>
      injection h with h
      subst h
      rw [account_cycles, (exec_reaches hv).cycles, (fetch_reaches s).cycles]
      exact Nat.lt_add_of_pos_right (Platform.cost_pos hp hne _)
    all_goals exact nomatch h

theorem runBoundary_cycles_lt {s t : State} (hp : s.platform.wf = true)
    (h : runBoundary s = .next t) : s.cycles < t.cycles := by
  unfold runBoundary at h
  split at h
  next n _ =>
    injection h with h
    subst h
    have hcycles : (s.takeInterrupt n).cycles = s.cycles := by simp [State.takeInterrupt]
    rw [account_cycles, hcycles]
    exact Nat.lt_add_of_pos_right (Platform.wf_dispatchCycles hp)
  next =>
    rw [State.promote_eq] at h
    let u : State := { s with ime := s.ime || s.imePending, imePending := false }
    exact runInstruction_cycles_lt (s := u) hp h

/-- On a platform the spec allows every step takes time. -/
theorem step_cycles_lt {s t : State} (hp : s.platform.wf = true) (h : step s = .next t) :
    s.cycles < t.cycles := by
  have hmoves : s.takeMoves.platform.wf = true := by simpa using hp
  rw [← s.takeMoves_cycles]
  unfold step driverStep at h
  split at h
  next => exact nomatch h
  next => exact runBoundary_cycles_lt hmoves h
  next =>
    dsimp only at h
    split at h
    next =>
      injection h with h
      subst h
      rw [account_cycles]
      exact Nat.lt_succ_self _
    next => exact runBoundary_cycles_lt (s := { s.takeMoves with mode := .run }) hmoves h

/-- Settles O54: each kind of change a step is made of goes forward; that time is longer after the
step rests on the cost of each kind of step. -/
theorem stepOnlyGoesForward : Obligations.StepOnlyGoesForward := by
  intro s t h
  obtain ⟨hoverlay, hplatform, hserial, hreports, hcycles⟩ :=
    (Ahead.stepClosed s).step (Ahead.refl s) h
  exact ⟨hoverlay, hplatform, hserial, hreports, hcycles, fun hp => step_cycles_lt hp h⟩

end Sys2Proof.Machine
end

section
/-!
PROOFS. What an instruction may change (10_state.md R20 to R29, R43, R47, R108, R109): the
registers, SP and the control cells. Each shape is taken apart once, in `Shape.made`; the frames of
the single cells are inductions over that. And the step after EI (47_system.md R284).
-/

namespace Sys2Proof.Machine

open Sys2Proof

/-! ### The tables of Safety.lean by shape -/

/-- The cells a pair operand names (R21, R109). -/
def cellsOfPair : Pair → List Reg8
  | .bc => [.b, .c]
  | .de => [.d, .e]
  | .hl => [.h, .l]
  | .sp => []

/-- The cells POP writes, but for F (R168, R169). -/
def cellsOfStackPair : StackPair → List Reg8
  | .bc => [.b, .c]
  | .de => [.d, .e]
  | .hl => [.h, .l]
  | .af => [.a]

/-- CP writes no result (R188). -/
def cellsOfAlu : AluOp → List Reg8
  | .cp => []
  | _ => [.a]

/-- The registers a shape may write. -/
def Shape.destinations : Shape → List Reg8
  | .ldPair p _ | .incPair p | .decPair p => cellsOfPair p
  | .incReg r | .decReg r | .ldImm r _ | .ldReg r _ | .ldFromHl r | .rotReg _ r | .resReg _ r |
    .setReg _ r => [r]
  | .rotA _ | .ldAFromBc | .ldAFromDe | .daa | .cpl | .ldhAFromImm _ | .ldhAFromC | .ldAFromAbs _ =>
    [.a]
  | .addHl _ | .ldAToHlInc | .ldAToHlDec | .ldHlSp _ => [.h, .l]
  | .ldAFromHlInc | .ldAFromHlDec => [.a, .h, .l]
  | .aluReg op _ | .aluHl op | .aluImm op _ => cellsOfAlu op
  | .pop p => cellsOfStackPair p
  | _ => []

/-- The shapes that may write SP. -/
def Shape.writesSp : Shape → Bool
  | .ldPair .sp _ | .incPair .sp | .decPair .sp => true
  | .retCond _ | .pop _ | .callCond _ _ | .push _ | .rst _ | .ret | .call _ | .reti | .addSp _ |
    .ldSpHl => true
  | _ => false

/-- The shapes that change IME (R28). -/
def Shape.writesIme : Shape → Bool
  | .di | .reti => true
  | _ => false

/-- The shapes that change `IME_PENDING` (R29). -/
def Shape.writesImePending : Shape → Bool
  | .di | .reti | .ei => true
  | _ => false

/-- The shapes that change MODE (R43). -/
def Shape.writesMode : Shape → Bool
  | .halt | .stop _ => true
  | _ => false

/-- The shapes that add a report (R47). -/
def Shape.writesReports : Shape → Bool
  | .unmapped _ => true
  | _ => false

theorem destinations_eq_shape (i : Instr) : destinations i = (shapeOf i).destinations := by
  cases i <;> rfl

theorem writesSp_eq_shape (i : Instr) : writesSp i = (shapeOf i).writesSp := by
  cases i <;> rfl

/-! ### What a shape is made of -/

/-- `t` comes from `s` by changes the shape may make: interleaving points, stores, and changes of F
and PC without restriction, changes of the other cells only where the shape's table says so. -/
inductive Shape.Made (sh : Shape) (s : State) : State → Prop where
  | refl : Made sh s s
  | moves {t : State} : Made sh s t → Made sh s t.takeMoves
  | write {t : State} (x : Word) (v : Byte) : Made sh s t → Made sh s (t.memWrite x v)
  | setR8 {t : State} (r : Reg8) (v : Byte) : r ∈ sh.destinations → Made sh s t →
      Made sh s (t.setR8 r v)
  | setF {t : State} (f : Byte) : Made sh s t → Made sh s { t with f := f }
  | setPc {t : State} (x : Word) : Made sh s t → Made sh s { t with pc := x }
  | setSp {t : State} (x : Word) : sh.writesSp = true → Made sh s t → Made sh s { t with sp := x }
  | setIme {t : State} (b : Bool) : sh.writesIme = true → Made sh s t →
      Made sh s { t with ime := b }
  | setImePending {t : State} (b : Bool) : sh.writesImePending = true → Made sh s t →
      Made sh s { t with imePending := b }
  | setMode {t : State} (m : Mode) : sh.writesMode = true → Made sh s t →
      Made sh s { t with mode := m }
  | setReports {t : State} (l : List Report) : sh.writesReports = true → Made sh s t →
      Made sh s { t with reports := l }

namespace Shape.Made

variable {sh : Shape} {s t u : State}

theorem trans (h1 : sh.Made s t) (h2 : sh.Made t u) : sh.Made s u := by
  induction h2 with
  | refl => exact h1
  | moves _ ih => exact ih.moves
  | write x v _ ih => exact ih.write x v
  | setR8 r v hr _ ih => exact ih.setR8 r v hr
  | setF f _ ih => exact ih.setF f
  | setPc x _ ih => exact ih.setPc x
  | setSp x hx _ ih => exact ih.setSp x hx
  | setIme b hb _ ih => exact ih.setIme b hb
  | setImePending b hb _ ih => exact ih.setImePending b hb
  | setMode m hm _ ih => exact ih.setMode m hm
  | setReports l hl _ ih => exact ih.setReports l hl

theorem busWrite (h : sh.Made s t) (x : Word) (v : Byte) : sh.Made s (t.busWrite x v) :=
  h.moves.write x v

theorem withFlags (h : sh.Made s t) (p : Policy) (x : Flags) : sh.Made s (t.withFlags p x) :=
  h.setF _

theorem push16 (h : sh.Made s t) (hsp : sh.writesSp = true) (v : Word) :
    sh.Made s (t.push16 v) :=
  ((h.setSp _ hsp).busWrite _ _).busWrite _ _

theorem pop16 (h : sh.Made s t) (hsp : sh.writesSp = true) : sh.Made s t.pop16.2 :=
  h.moves.moves.setSp _ hsp

theorem imm8 (h : sh.Made s t) : sh.Made s t.imm8.2 := h.moves.setPc _

theorem setHl (h : sh.Made s t) (hcells : ∀ r ∈ [Reg8.h, .l], r ∈ sh.destinations) (v : Word) :
    sh.Made s (t.setHl v) :=
  (h.setR8 .h (hiByte v) (hcells _ (by decide))).setR8 .l (loByte v) (hcells _ (by decide))

/-- A pair is written through its cells, SP being none (R21). -/
theorem setR16 (h : sh.Made s t) {p : Pair} (hcells : ∀ r ∈ cellsOfPair p, r ∈ sh.destinations)
    (hsp : p = .sp → sh.writesSp = true) (v : Word) : sh.Made s (t.setR16 p v) := by
  cases p with
  | bc =>
    exact (h.setR8 .b (hiByte v) (hcells _ (by decide))).setR8 .c (loByte v) (hcells _ (by decide))
  | de =>
    exact (h.setR8 .d (hiByte v) (hcells _ (by decide))).setR8 .e (loByte v) (hcells _ (by decide))
  | hl => exact h.setHl hcells v
  | sp => exact h.setSp v (hsp rfl)

theorem setStack16 (h : sh.Made s t) {p : StackPair}
    (hcells : ∀ r ∈ cellsOfStackPair p, r ∈ sh.destinations) (v : Word) :
    sh.Made s (t.setStack16 p v) := by
  cases p with
  | bc =>
    exact (h.setR8 .b (hiByte v) (hcells _ (by decide))).setR8 .c (loByte v) (hcells _ (by decide))
  | de =>
    exact (h.setR8 .d (hiByte v) (hcells _ (by decide))).setR8 .e (loByte v) (hcells _ (by decide))
  | hl => exact h.setHl hcells v
  | af => exact (h.setR8 .a _ (hcells _ (by decide))).setF _

theorem loadFrom (rd : Reg8) (x : Word) (h : rd ∈ sh.destinations) :
    sh.Made s (Machine.loadFrom rd x s) :=
  (moves refl).setR8 rd _ h

/-- The accumulator is written by every operation but CP (R188). -/
theorem aluA (h : sh.Made s t) {op : AluOp} (hcells : ∀ r ∈ cellsOfAlu op, r ∈ sh.destinations)
    (y : Byte) : sh.Made s (Machine.aluA op y t) := by
  cases op with
  | cp => exact h.withFlags _ _
  | add | adc | sub | sbc | and | xor | or =>
    exact (h.setR8 .a _ (hcells _ (by decide))).withFlags _ _

theorem r8_eq (h : sh.Made s t) {r : Reg8} (hr : r ∉ sh.destinations) : t.r8 r = s.r8 r := by
  induction h with
  | refl => rfl
  | setR8 q v hq _ ih => rw [State.setR8_r8, if_neg (fun e : r = q => hr (e.symm ▸ hq)), ih]
  | moves _ ih | write _ _ _ ih => simpa using ih
  | setF _ _ ih | setPc _ _ ih => exact ih
  | setSp _ _ _ ih | setIme _ _ _ ih | setImePending _ _ _ ih => exact ih
  | setMode _ _ _ ih | setReports _ _ _ ih => exact ih

/-! A cell whose table is false for the shape: the changes that touch it are shut out by `simp_all`
through that hypothesis, every other change leaves it alone. -/

theorem sp_eq (h : sh.Made s t) (hsp : sh.writesSp = false) : t.sp = s.sp := by
  induction h <;> simp_all

theorem ime_eq (h : sh.Made s t) (hime : sh.writesIme = false) : t.ime = s.ime := by
  induction h <;> simp_all

theorem imePending_eq (h : sh.Made s t) (hp : sh.writesImePending = false) :
    t.imePending = s.imePending := by
  induction h <;> simp_all

theorem mode_eq (h : sh.Made s t) (hm : sh.writesMode = false) : t.mode = s.mode := by
  induction h <;> simp_all

theorem reports_eq (h : sh.Made s t) (hr : sh.writesReports = false) : t.reports = s.reports := by
  induction h <;> simp_all

end Shape.Made

/-- Every shape but the marker's makes only the changes its tables allow. -/
theorem Shape.made (sh : Shape) (hs : sh ≠ .prefixCb) (s : State) : sh.Made s (sh.run s) := by
  have r : sh.Made s s := .refl
  cases sh with
  | nop => exact r
  | ldPair p n | incPair p | decPair p =>
    exact r.setR16 (fun _ h => h) (fun h => h ▸ rfl) _
  | ldAToBc | ldAToDe | ldHlImm | ldHlReg | ldhImmFromA | ldhCFromA | ldAToAbs =>
    exact r.busWrite _ _
  | ldAbsSp x => exact (r.busWrite _ _).busWrite _ _
  | incReg q | decReg q | rotReg op q =>
    exact (r.setR8 q _ List.mem_cons_self).withFlags _ _
  | ldImm q n | ldReg q q' | resReg b q | setReg b q => exact r.setR8 q _ List.mem_cons_self
  | rotA | daa | cpl => exact (r.setR8 .a _ List.mem_cons_self).withFlags _ _
  | addHl | ldHlSp => exact (r.setHl (fun _ h => h) _).withFlags _ _
  | ldFromHl q => exact .loadFrom q s.hl List.mem_cons_self
  | ldAFromBc => exact .loadFrom .a s.bc (by decide)
  | ldAFromDe => exact .loadFrom .a s.de (by decide)
  | ldhAFromImm n => exact .loadFrom .a (highPage n) List.mem_cons_self
  | ldhAFromC => exact .loadFrom .a (highPage s.c) (by decide)
  | ldAFromAbs x => exact .loadFrom .a x List.mem_cons_self
  | ldAFromHlInc | ldAFromHlDec =>
    exact (Made.loadFrom .a s.hl (by decide)).setHl (by decide) _
  | ldAToHlInc | ldAToHlDec => exact (r.busWrite _ _).setHl (fun _ h => h) _
  | incHl | decHl | rotHl => exact (r.moves.busWrite _ _).withFlags _ _
  | resHl b | setHlBit b => exact r.moves.busWrite _ _
  | scf | ccf | bitReg => exact r.withFlags _ _
  | bitHl b => exact r.moves.withFlags _ _
  | aluReg op q => exact r.aluA (fun _ h => h) _
  | aluImm op n => exact r.aluA (fun _ h => h) _
  | aluHl op => exact r.moves.aluA (fun _ h => h) _
  | jp | jpHl | jr => exact r.setPc _
  | jpCond cc x =>
    simp only [Shape.run, Machine.jpCond]
    split
    · exact r.setPc _
    · exact r
  | jrCond cc e =>
    simp only [Shape.run, Machine.jrCond]
    split
    · exact r.setPc _
    · exact r
  | call x | rst y => exact (r.push16 rfl _).setPc _
  | callCond cc x =>
    simp only [Shape.run, Machine.callCond]
    split
    · exact (r.push16 rfl _).setPc _
    · exact r
  | ret => exact (r.pop16 rfl).setPc _
  | retCond cc =>
    simp only [Shape.run, Machine.retCond]
    split
    · exact (r.pop16 rfl).setPc _
    · exact r
  | reti => exact (((r.pop16 rfl).setPc s.pop16.1).setIme true rfl).setImePending false rfl
  | push p => exact r.push16 rfl _
  | pop p => exact (r.pop16 rfl).setStack16 (fun _ h => h) _
  | addSp e => exact (r.setSp _ rfl).withFlags _ _
  | ldSpHl => exact r.setSp _ rfl
  | di => exact (r.setIme false rfl).setImePending false rfl
  | ei => exact r.setImePending _ rfl
  | halt | stop => exact r.setMode _ rfl
  | unmapped op => exact r.setReports _ rfl
  | prefixCb => exact absurd rfl hs

/-- What an instruction is made of: what the shape of the row it runs allows. -/
theorem exec_made {i : Instr} {s t : State} (h : exec i s = .next t) :
    (shapeOf (effective i s)).Made s t := by
  refine exec_cases (P := fun i s t => (shapeOf (effective i s)).Made s t) (fun i s hi => ?_)
    (fun s t hp => ?_) h
  · rw [effective_of_wellFormed hi]
    exact Shape.made _ (shapeOf_ne_prefixCb hi) s
  · rw [effective_of_wellFormed (prefixedEntry_wellFormed _)] at hp
    exact (Shape.Made.imm8 .refl).trans hp

/-- Settles O55: a register or SP that the row's table does not list is none of the cells the row's
shape writes. -/
theorem registerFrame : Obligations.RegisterFrame := by
  intro i s t h
  rw [destinations_eq_shape, writesSp_eq_shape]
  exact ⟨fun r hr => (exec_made h).r8_eq hr, (exec_made h).sp_eq⟩

/-! ### The rows of the shapes that stand alone (R281 to R286) -/

/-- The unmapped byte with this code (R114). -/
def unmappedOfCode (op : Byte) : Unmapped :=
  if op = 0xD3 then .xd3 else if op = 0xDB then .xdb else if op = 0xDD then .xdd
  else if op = 0xE3 then .xe3 else if op = 0xE4 then .xe4 else if op = 0xEB then .xeb
  else if op = 0xEC then .xec else if op = 0xED then .xed else if op = 0xF4 then .xf4
  else if op = 0xFC then .xfc else .xfd

/-- The row of a shape that only one row has. -/
def Shape.soleRow : Shape → Option Instr
  | .di => some .di
  | .ei => some .ei
  | .reti => some .reti
  | .halt => some .halt
  | .stop n => some (.stop_n8 n)
  | .unmapped op => some (.unmapped (unmappedOfCode op))
  | .pop .af => some .pop_af
  | _ => none

theorem soleRow_getD (i : Instr) : (shapeOf i).soleRow.getD i = i := by
  cases i <;> rfl

/-- A prefixed row starts with 0xCB, so an instruction that runs another row is that row. -/
theorem eq_of_effective_eq {i j : Instr} {s : State} (h : effective i s = j)
    (hj : (encode j).head? ≠ some 0xCB) : i = j := by
  by_cases hi : i.WellFormed
  · exact (effective_of_wellFormed hi s).symm.trans h
  · cases i
    case prefix_cb =>
      have hrow : prefixedEntry s.imm8.1 = j := h
      rw [← hrow, encode_prefixedEntry] at hj
      exact absurd rfl hj
    all_goals exact absurd rfl hi

/-- An instruction with a shape that stands alone is the row of that shape. -/
theorem eq_of_shape {i j : Instr} {s : State} {sh : Shape} (h : shapeOf (effective i s) = sh)
    (hsole : sh.soleRow = some j) (hj : (encode j).head? ≠ some 0xCB) : i = j := by
  refine eq_of_effective_eq (s := s) ?_ hj
  have hrow := soleRow_getD (effective i s)
  rw [h, hsole] at hrow
  exact hrow.symm

theorem head_encode_unmapped (u : Unmapped) : (encode (.unmapped u)).head? ≠ some 0xCB := by
  cases u <;> decide

theorem writesIme_eq_false {i : Instr} (s : State) (hdi : i ≠ .di) (hreti : i ≠ .reti) :
    (shapeOf (effective i s)).writesIme = false := by
  cases h : shapeOf (effective i s)
  case di => exact absurd (eq_of_shape h rfl (by decide)) hdi
  case reti => exact absurd (eq_of_shape h rfl (by decide)) hreti
  all_goals rfl

theorem writesImePending_eq_false {i : Instr} (s : State) (hdi : i ≠ .di) (hreti : i ≠ .reti)
    (hei : i ≠ .ei) : (shapeOf (effective i s)).writesImePending = false := by
  cases h : shapeOf (effective i s)
  case di => exact absurd (eq_of_shape h rfl (by decide)) hdi
  case reti => exact absurd (eq_of_shape h rfl (by decide)) hreti
  case ei => exact absurd (eq_of_shape h rfl (by decide)) hei
  all_goals rfl

theorem writesMode_eq_false {i : Instr} (s : State) (hhalt : i ≠ .halt)
    (hstop : ∀ n, i ≠ .stop_n8 n) : (shapeOf (effective i s)).writesMode = false := by
  cases h : shapeOf (effective i s)
  case halt => exact absurd (eq_of_shape h rfl (by decide)) hhalt
  case stop n =>
    have hhead : some (0x10 : Byte) ≠ some 0xCB := by decide
    exact absurd (eq_of_shape h rfl hhead) (hstop n)
  all_goals rfl

theorem writesReports_eq_false {i : Instr} (s : State) (hu : ∀ u : Unmapped, i ≠ .unmapped u) :
    (shapeOf (effective i s)).writesReports = false := by
  cases h : shapeOf (effective i s)
  case unmapped op => exact absurd (eq_of_shape h rfl (head_encode_unmapped _)) (hu _)
  all_goals rfl

/-! ### The latches that only a store changes (R39, R47, R69) -/

theorem State.memWrite_overlay {s : State} {x : Word} (hx : x ≠ s.platform.addrBootOff) (v : Byte) :
    (s.memWrite x v).overlay = s.overlay :=
  State.memWrite_cases (P := fun u => u.overlay = s.overlay) rfl (fun e => absurd e hx)
    (fun _ => (congrArg State.overlay (s.writeSc_frame v)).trans rfl)
    (fun _ => (congrArg State.overlay s.writeDiv_eq).trans rfl) fun _ _ => rfl

theorem State.memWrite_serialOut_eq {s : State} {x : Word} (hx : x ≠ s.platform.addrSc) (v : Byte) :
    (s.memWrite x v).serialOut = s.serialOut :=
  State.memWrite_cases (P := fun u => u.serialOut = s.serialOut) rfl (fun _ => rfl)
    (fun e => absurd e hx) (fun _ => (congrArg State.serialOut s.writeDiv_eq).trans rfl)
    fun _ _ => rfl

theorem State.memWrite_divPre {s : State} {x : Word} (hx : x ≠ s.platform.addrDiv) (v : Byte) :
    (s.memWrite x v).divPre = s.divPre :=
  State.memWrite_cases (P := fun u => u.divPre = s.divPre) rfl (fun _ => rfl)
    (fun _ => (congrArg State.divPre (s.writeSc_frame v)).trans rfl) (fun e => absurd e hx)
    fun _ _ => rfl

/-- A field that interleaving points and cells leave alone, and stores at addresses other than a, is
unchanged when a is not stored to. -/
theorem Reaches.proj_eq {α : Type} {g : State → α} {a : Platform → Word} {l : List Word}
    {s t : State} (h : Reaches l s t) (ha : a s.platform ∉ l) (hm : ∀ u : State, g u.takeMoves = g u)
    (hw : ∀ (u : State) x v, x ≠ a u.platform → g (u.memWrite x v) = g u)
    (hc : ∀ u w, CellsOnly u w → g w = g u) : g t = g s := by
  have hboth := h.preserves (P := fun u => u.platform = s.platform ∧ g u = g s)
    (fun u ⟨hp, hg⟩ => ⟨by simpa using hp, (hm u).trans hg⟩)
    (fun u x v hx ⟨hp, hg⟩ => ⟨by simpa using hp,
      (hw u x v fun e => ha (hp ▸ e ▸ hx)).trans hg⟩)
    (fun u w ⟨hp, hg⟩ hcell => ⟨(congrArg State.platform hcell.same).trans hp,
      (hc u w hcell).trans hg⟩)
    ⟨rfl, rfl⟩
  exact hboth.2

theorem Reaches.overlay {l : List Word} {s t : State} (h : Reaches l s t)
    (ha : s.platform.addrBootOff ∉ l) : t.overlay = s.overlay :=
  h.proj_eq (g := State.overlay) (a := Platform.addrBootOff) ha State.takeMoves_overlay
    (fun _ _ v hx => State.memWrite_overlay hx v) fun _ _ hc =>
      (congrArg State.overlay hc.same).trans rfl

theorem Reaches.serialOut {l : List Word} {s t : State} (h : Reaches l s t)
    (ha : s.platform.addrSc ∉ l) : t.serialOut = s.serialOut :=
  h.proj_eq (g := State.serialOut) (a := Platform.addrSc) ha State.takeMoves_serialOut
    (fun _ _ v hx => State.memWrite_serialOut_eq hx v) fun _ _ hc =>
      (congrArg State.serialOut hc.same).trans rfl

theorem Reaches.divPre {l : List Word} {s t : State} (h : Reaches l s t)
    (ha : s.platform.addrDiv ∉ l) : t.divPre = s.divPre :=
  h.proj_eq (g := State.divPre) (a := Platform.addrDiv) ha State.takeMoves_divPre
    (fun _ _ v hx => State.memWrite_divPre hx v) fun _ _ hc =>
      (congrArg State.divPre hc.same).trans rfl

theorem Reaches.timaPre {l : List Word} {s t : State} (h : Reaches l s t) : t.timaPre = s.timaPre :=
  h.preserves (P := fun u => u.timaPre = s.timaPre) (fun u hu => by simpa using hu)
    (fun u x v _ hu => by simpa using hu)
    (fun _ _ hu hc => (congrArg State.timaPre hc.same).trans hu) rfl

/-- Settles O58: the four control cells by the shape of the row, the latches by what the instruction
stores to. -/
theorem controlFrame : Obligations.ControlFrame := by
  intro i s t h
  have hmade := exec_made h
  have hreach := exec_reaches h
  exact ⟨fun hdi hreti => hmade.ime_eq (writesIme_eq_false s hdi hreti),
    fun hdi hreti hei => hmade.imePending_eq (writesImePending_eq_false s hdi hreti hei),
    fun hhalt hstop => hmade.mode_eq (writesMode_eq_false s hhalt hstop),
    fun hu => hmade.reports_eq (writesReports_eq_false s hu),
    hreach.overlay, hreach.serialOut, hreach.divPre, hreach.timaPre, hreach.cycles,
    hreach.platform⟩

/-! ### The delayed enable (R29, R284, R306) -/

/-- With IME clear nothing is dispatched (R305). -/
theorem State.toDispatch_of_ime {s : State} (h : s.ime = false) : s.toDispatch = none := by
  rw [State.toDispatch, h]
  rfl

/-- IME stays set under every instruction but DI, and no enable is left pending but by EI. -/
theorem exec_of_enabled {i : Instr} {s t : State} (h : exec i s = .next t) (hime : s.ime = true)
    (hpending : s.imePending = false) :
    (i ≠ .di → t.ime = true) ∧ (i ≠ .ei → t.imePending = false) := by
  obtain ⟨hime', hpending', _⟩ := controlFrame i s t h
  by_cases hdi : i = .di
  · subst hdi
    injection h with h
    exact ⟨fun hne => absurd rfl hne, fun _ => h ▸ rfl⟩
  by_cases hreti : i = .reti
  · subst hreti
    injection h with h
    exact ⟨fun _ => h ▸ rfl, fun _ => h ▸ rfl⟩
  · exact ⟨fun _ => (hime' hdi hreti).trans hime,
      fun hei => (hpending' hdi hreti hei).trans hpending⟩

/-- A byte the platform adds to `UNMAPPED` is reported and skipped, the delayed enable having been
promoted (R286, R306). -/
theorem step_of_added_unmapped {s : State} (hmode : s.mode = .run) (hmoves : s.moves = [])
    (hd : s.toDispatch = none) (hadded : s.memRead s.pc ∈ s.platform.moreUnmapped)
    (hcb : s.memRead s.pc ≠ 0xCB) :
    step s = .next (account (s.platform.unmappedCost (s.memRead s.pc)) (unmapped (s.memRead s.pc)
      { s with pc := s.pc + 1, ime := s.ime || s.imePending, imePending := false })) := by
  let u : State := { s with ime := s.ime || s.imePending, imePending := false }
  have hfetch : u.imm8 = (s.memRead s.pc, { u with pc := s.pc + 1 }) := imm8_of_nil (s := u) hmoves
  rw [step_of_toDispatch_none hmode hmoves hd, State.promote_eq, runInstruction]
  dsimp only
  rw [hfetch, if_pos ⟨hcb, hadded⟩]

/-- Settles O46: IME is still clear at the boundary after EI, so nothing is dispatched there; the
promotion then sets it before the instruction runs. -/
theorem enableIsDelayed : Obligations.EnableIsDelayed := by
  refine ⟨fun s => ⟨ei s, rfl, rfl, rfl⟩,
    fun s i rest hmode hmoves hime hpending hmapped hdecode => ?_,
    fun s hmode hmoves hime hpending hadded hcb => ?_⟩
  · obtain ⟨t, ht, hstep⟩ :=
      step_of_decode hmode hmoves (State.toDispatch_of_ime hime) hmapped hdecode
    rw [hime, hpending, Bool.false_or] at ht
    exact ⟨t, ht, hstep, exec_of_enabled ht rfl rfl⟩
  · refine ⟨_, step_of_added_unmapped hmode hmoves (State.toDispatch_of_ime hime) hadded hcb, ?_⟩
    simp [unmapped, hime, hpending]

end Sys2Proof.Machine
end

section
/-!
PROOFS. The flags (10_state.md R9, R26, R27): F after each shape is the flag application of the
shape's policy, but for POP AF. And that no instruction reads CYCLES or `TIMA_PRE` (R45, R46, R371).
-/

namespace Sys2Proof.Machine

open Sys2Proof

/-! ### Policies (R9, R27) -/

/-- `----`. -/
def policyKeep : Policy := ⟨.keep, .keep, .keep, .keep⟩

/-- The policy of a shape. -/
def Shape.policy : Shape → Policy
  | .incReg _ | .incHl => policyZ0Hk
  | .decReg _ | .decHl => policyZ1Hk
  | .rotA _ => policy000C
  | .addHl _ => policyk0HC
  | .daa => policyZk0C
  | .cpl => policyk11k
  | .scf => policyk001
  | .ccf => policyk00C
  | .aluReg op _ | .aluHl op | .aluImm op _ => aluPolicy op
  | .addSp _ | .ldHlSp _ => policy00HC
  | .pop .af => policyZNHC
  | .rotReg op _ | .rotHl op => rotPolicy op
  | .bitReg _ _ | .bitHl _ => policyZ01k
  | _ => policyKeep

theorem flagPolicyOf_eq_shape (i : Instr) : flagPolicyOf i = (shapeOf i).policy := by
  cases i <;> rfl

/-- What a slot of a policy says about a flag that was `old` and is `new`. -/
def Slot.Obeyed (slot : Slot) (old new : Bool) : Prop :=
  match slot with
  | .keep => new = old
  | .zero => new = false
  | .one => new = true
  | .computed => True

theorem Slot.obeyed_apply (slot : Slot) (old new : Bool) :
    slot.Obeyed old (slot.apply old new) := by
  cases slot
  case computed => trivial
  all_goals rfl

/-- F went from f to g as the policy says. -/
def Policy.Obeyed (p : Policy) (f g : Byte) : Prop :=
  p.z.Obeyed (flagZ f) (flagZ g) ∧ p.n.Obeyed (flagN f) (flagN g) ∧
  p.h.Obeyed (flagH f) (flagH g) ∧ p.c.Obeyed (flagC f) (flagC g)

/-- Flag application obeys its policy (R134). -/
theorem Policy.obeyed_applyFlags (p : Policy) (x : Flags) (f : Byte) :
    p.Obeyed f (applyFlags p x f) := by
  have h : flagsOf (applyFlags p x f) = ⟨p.z.apply (flagZ f) x.z, p.n.apply (flagN f) x.n,
    p.h.apply (flagH f) x.h, p.c.apply (flagC f) x.c⟩ := flagsOf_packFlags _ f
  injection h with hz hn hh hc
  rw [Policy.Obeyed, hz, hn, hh, hc]
  exact ⟨p.z.obeyed_apply _ _, p.n.obeyed_apply _ _, p.h.obeyed_apply _ _, p.c.obeyed_apply _ _⟩

/-- Packing the flags that are there changes nothing. -/
theorem packFlags_flagsOf (f : Byte) : packFlags (flagsOf f) f = f := by
  have hbits : ∀ i, i < 8 → (packFlags (flagsOf f) f).getLsbD i = f.getLsbD i := by
    intro i hi
    rw [packFlags_getLsbD]
    interval_cases i <;> simp [flagsOf, flagZ, flagN, flagH, flagC]
  exact BitVec.eq_of_getLsbD_eq hbits

theorem applyFlags_keep (x : Flags) (f : Byte) : applyFlags policyKeep x f = f :=
  packFlags_flagsOf f

/-- F after a shape is the flag application of its policy, but for POP AF (R134). -/
theorem Shape.run_f (sh : Shape) (hs : sh ≠ .prefixCb) (haf : sh ≠ .pop .af) (s : State) :
    ∃ x, (sh.run s).f = applyFlags sh.policy x s.f := by
  have keep : ∀ {f : Byte}, f = s.f → ∃ x, f = applyFlags policyKeep x s.f := fun h =>
    ⟨flagsOf s.f, h.trans (applyFlags_keep _ _).symm⟩
  have flags : ∀ {t : State} {p : Policy} {x : Flags}, t.f = s.f →
      ∃ y, (t.withFlags p x).f = applyFlags p y s.f := fun {t p x} h =>
    ⟨x, congrArg (applyFlags p x) h⟩
  have hmoves : s.takeMoves.f = s.f := s.takeMoves_f
  have hpop : s.pop16.2.f = s.f := by simp
  cases sh with
  | nop | jp | jpHl | jr | ldSpHl | di | ei | halt | stop | unmapped => exact keep rfl
  | ldPair p n | incPair p | decPair p => exact keep (State.setR16_f s p _)
  | ldImm q n | ldReg q q' | resReg b q | setReg b q => exact keep (State.setR8_f s q _)
  | ldAToBc | ldAToDe | ldHlImm | ldHlReg | ldhImmFromA | ldhCFromA | ldAToAbs =>
    exact keep (State.busWrite_f s _ _)
  | ldAToHlInc | ldAToHlDec => exact keep (State.busWrite_f s _ _)
  | ldAbsSp x => exact keep (by simp [Shape.run, Machine.ldAbsSp])
  | resHl b | setHlBit b => exact keep ((State.busWrite_f s.takeMoves _ _).trans hmoves)
  | ldFromHl q => exact keep ((State.setR8_f s.takeMoves q _).trans hmoves)
  | ldAFromBc | ldAFromDe | ldhAFromImm | ldhAFromC | ldAFromAbs | ldAFromHlInc | ldAFromHlDec =>
    exact keep hmoves
  | jpCond cc x =>
    simp only [Shape.run, Machine.jpCond]
    split <;> exact keep rfl
  | jrCond cc e =>
    simp only [Shape.run, Machine.jrCond]
    split <;> exact keep rfl
  | call x | rst y | push p => exact keep (State.push16_f s _)
  | callCond cc x =>
    simp only [Shape.run, Machine.callCond]
    split
    · exact keep (State.push16_f s _)
    · exact keep rfl
  | ret | reti => exact keep hpop
  | retCond cc =>
    simp only [Shape.run, Machine.retCond]
    split
    · exact keep hpop
    · exact keep rfl
  | pop p =>
    cases p with
    | bc | de | hl => exact keep hpop
    | af => exact absurd rfl haf
  | incReg q | decReg q | rotReg op q => exact flags (State.setR8_f s q _)
  | rotA | daa | cpl | scf | ccf | bitReg | addHl | addSp | ldHlSp | aluReg | aluImm =>
    exact flags rfl
  | aluHl op => exact flags hmoves
  | bitHl b => exact flags hmoves
  | incHl | decHl | rotHl => exact flags ((State.busWrite_f s.takeMoves _ _).trans hmoves)
  | prefixCb => exact absurd rfl hs

/-- POP AF leaves the low nibble of F at 0 (R169). -/
theorem pop_af_nibble (s : State) : (pop .af s).f &&& 0x0F = 0 := by
  show loByte s.pop16.1 &&& 0xF0 &&& 0x0F = 0
  rw [BitVec.and_assoc]
  exact BitVec.and_zero

/-- F after a shape obeys the shape's policy, and its low nibble is as it was but after POP AF (R22,
R27, R169). -/
theorem Shape.run_f_obeyed (sh : Shape) (hs : sh ≠ .prefixCb) (s : State) :
    sh.policy.Obeyed s.f (sh.run s).f ∧
    (sh.run s).f &&& 0x0F = if sh = .pop .af then 0 else s.f &&& 0x0F := by
  by_cases haf : sh = .pop .af
  · subst haf
    refine ⟨⟨trivial, trivial, trivial, trivial⟩, ?_⟩
    rw [if_pos rfl]
    exact pop_af_nibble s
  · obtain ⟨x, hx⟩ := sh.run_f hs haf s
    rw [hx, if_neg haf]
    exact ⟨sh.policy.obeyed_applyFlags x s.f, packFlags_nibble _ _⟩

/-- What an instruction does to F: what the shape of the row it runs does. -/
theorem exec_f_obeyed {i : Instr} {s t : State} (h : exec i s = .next t) :
    (shapeOf (effective i s)).policy.Obeyed s.f t.f ∧
    t.f &&& 0x0F = if shapeOf (effective i s) = .pop .af then 0 else s.f &&& 0x0F := by
  refine exec_cases (P := fun i s t => (shapeOf (effective i s)).policy.Obeyed s.f t.f ∧
    t.f &&& 0x0F = if shapeOf (effective i s) = .pop .af then 0 else s.f &&& 0x0F)
    (fun i s hi => ?_) (fun s t hp => ?_) h
  · rw [effective_of_wellFormed hi]
    exact (shapeOf i).run_f_obeyed (shapeOf_ne_prefixCb hi) s
  · have hf : s.imm8.2.f = s.f := s.takeMoves_f
    rw [effective_of_wellFormed (prefixedEntry_wellFormed _), hf] at hp
    exact hp

theorem shape_eq_pop_af_iff (i : Instr) (s : State) :
    shapeOf (effective i s) = .pop .af ↔ i = .pop_af :=
  ⟨fun h => eq_of_shape h rfl (by decide), fun h => h ▸ rfl⟩

/-- Settles O56: the table's policy is that of the row's shape, and the shape's F obeys it. -/
theorem flagFrame : Obligations.FlagFrame := by
  intro i s t h
  obtain ⟨⟨hz, hn, hh, hc⟩, hnibble⟩ := exec_f_obeyed h
  rw [flagPolicyOf_eq_shape]
  refine ⟨hz, hn, hh, hc, ?_⟩
  simpa only [shape_eq_pop_af_iff] using hnibble

/-! ### Time is not read (R45, R46, R371) -/

/-- The state at another time: other values of CYCLES and `TIMA_PRE`. -/
def State.atTime (s : State) (c d : Nat) : State := { s with cycles := c, timaPre := d }

section AtTime

variable (s : State) (c d : Nat)

theorem State.atTime_applyMoves (ms : List Move) :
    (s.atTime c d).applyMoves ms = (s.applyMoves ms).atTime c d := by
  induction ms generalizing s with
  | nil => rfl
  | cons m ms ih =>
    have hm : (s.atTime c d).applyMove m = (s.applyMove m).atTime c d := by cases m <;> rfl
    rw [State.applyMoves, hm, ih, State.applyMoves]

@[simp] theorem State.atTime_takeMoves : (s.atTime c d).takeMoves = s.takeMoves.atTime c d := by
  rw [State.takeMoves_eq, State.takeMoves_eq]
  exact State.atTime_applyMoves { s with moves := s.moves.tail } c d _

@[simp] theorem State.atTime_f : (s.atTime c d).f = s.f := rfl
@[simp] theorem State.atTime_platform : (s.atTime c d).platform = s.platform := rfl
@[simp] theorem State.atTime_oamBlocked : (s.atTime c d).oamBlocked = s.oamBlocked := rfl
@[simp] theorem State.atTime_vramBlocked : (s.atTime c d).vramBlocked = s.vramBlocked := rfl

@[simp] theorem State.atTime_writeSc (v : Byte) :
    (s.atTime c d).writeSc v = (s.writeSc v).atTime c d := by
  unfold State.writeSc
  cases v.getLsbD 7 <;> rfl

@[simp] theorem State.atTime_writeDiv : (s.atTime c d).writeDiv = s.writeDiv.atTime c d := by
  rw [State.writeDiv_eq, State.writeDiv_eq]
  rfl

@[simp] theorem State.atTime_memWrite (x : Word) (v : Byte) :
    (s.atTime c d).memWrite x v = (s.memWrite x v).atTime c d := by
  simp only [State.memWrite, State.atTime_platform, State.atTime_oamBlocked,
    State.atTime_vramBlocked, State.atTime_writeSc, State.atTime_writeDiv]
  split_ifs <;> rfl

@[simp] theorem State.atTime_busWrite (x : Word) (v : Byte) :
    (s.atTime c d).busWrite x v = (s.busWrite x v).atTime c d := by
  rw [State.busWrite, State.atTime_takeMoves, State.atTime_memWrite, State.busWrite]

@[simp] theorem State.atTime_busRead (x : Word) :
    (s.atTime c d).busRead x = ((s.busRead x).1, (s.busRead x).2.atTime c d) := by
  rw [State.busRead, State.atTime_takeMoves]
  rfl

@[simp] theorem State.atTime_imm8 :
    (s.atTime c d).imm8 = (s.imm8.1, s.imm8.2.atTime c d) := by
  rw [State.imm8, State.atTime_busRead]
  rfl

@[simp] theorem State.atTime_push16 (v : Word) :
    (s.atTime c d).push16 v = (s.push16 v).atTime c d := by
  let u : State := { s with sp := s.sp - 2 }
  show ((u.atTime c d).busWrite _ _).busWrite _ _ = _
  rw [State.atTime_busWrite, State.atTime_busWrite]
  rfl

@[simp] theorem State.atTime_pop16 :
    (s.atTime c d).pop16 = (s.pop16.1, s.pop16.2.atTime c d) := by
  rw [State.pop16, State.busRead16, State.atTime_busRead]
  dsimp only
  rw [State.atTime_busRead]
  rfl

@[simp] theorem State.atTime_setR8 (r : Reg8) (v : Byte) :
    (s.atTime c d).setR8 r v = (s.setR8 r v).atTime c d := by
  cases r <;> rfl

@[simp] theorem State.atTime_r8 (r : Reg8) : (s.atTime c d).r8 r = s.r8 r := by
  cases r <;> rfl

@[simp] theorem State.atTime_setR16 (p : Pair) (v : Word) :
    (s.atTime c d).setR16 p v = (s.setR16 p v).atTime c d := by
  cases p <;> rfl

@[simp] theorem State.atTime_r16 (p : Pair) : (s.atTime c d).r16 p = s.r16 p := by
  cases p <;> rfl

@[simp] theorem State.atTime_setStack16 (p : StackPair) (v : Word) :
    (s.atTime c d).setStack16 p v = (s.setStack16 p v).atTime c d := by
  cases p <;> rfl

@[simp] theorem State.atTime_stack16 (p : StackPair) : (s.atTime c d).stack16 p = s.stack16 p := by
  cases p <;> rfl

end AtTime

/-- The accumulator operations read A, F and their operand. -/
theorem aluA_atTime (op : AluOp) (y : Byte) (s : State) (c d : Nat) :
    aluA op y (s.atTime c d) = (aluA op y s).atTime c d := rfl

theorem loadFrom_atTime (rd : Reg8) (x : Word) (s : State) (c d : Nat) :
    loadFrom rd x (s.atTime c d) = (loadFrom rd x s).atTime c d := by
  rw [loadFrom, State.atTime_busRead]
  exact State.atTime_setR8 _ c d rd _

/-- A conditional transfer reads F alone. -/
theorem condHolds_atTime {f : State → State} {s : State} {c d : Nat} (cc : Cond)
    (h : f (s.atTime c d) = (f s).atTime c d) :
    (if condHolds cc (s.atTime c d).f then f (s.atTime c d) else s.atTime c d) =
      (if condHolds cc s.f then f s else s).atTime c d := by
  rw [State.atTime_f]
  split
  · exact h
  · rfl

theorem call_atTime (x : Word) (s : State) (c d : Nat) :
    call x (s.atTime c d) = (call x s).atTime c d :=
  congrArg (fun u : State => { u with pc := x }) (s.atTime_push16 c d s.pc)

theorem ret_atTime (s : State) (c d : Nat) : ret (s.atTime c d) = (ret s).atTime c d := by
  rw [ret, State.atTime_pop16]
  rfl

/-- A shape runs the same at any time. -/
theorem Shape.run_atTime (sh : Shape) (hs : sh ≠ .prefixCb) (s : State) (c d : Nat) :
    sh.run (s.atTime c d) = (sh.run s).atTime c d := by
  cases sh with
  | nop | jp | jpHl | jr | ldSpHl | di | ei | halt | stop | unmapped => rfl
  | rotA | daa | cpl | scf | ccf | addSp | ldHlSp | aluImm => rfl
  | ldPair p n => exact s.atTime_setR16 c d p n
  | ldImm q n => exact s.atTime_setR8 c d q n
  | incPair | decPair | ldReg | resReg | setReg | push | pop =>
    simp only [Shape.run, Machine.incPair, Machine.decPair, Machine.ldReg, Machine.resReg,
      Machine.setReg, Machine.push, Machine.pop, State.atTime_r16, State.atTime_setR16,
      State.atTime_r8, State.atTime_setR8, State.atTime_stack16, State.atTime_setStack16,
      State.atTime_push16, State.atTime_pop16]
  | addHl | incReg | decReg | rotReg | aluReg | bitReg =>
    simp only [Shape.run, Machine.addHl, Machine.incReg, Machine.decReg, Machine.rotReg,
      Machine.aluReg, Machine.bitReg, State.atTime_r16, State.atTime_r8, State.atTime_f,
      State.atTime_setR8]
    rfl
  | ldAToBc | ldAToDe | ldHlImm | ldhImmFromA | ldhCFromA | ldAToAbs =>
    exact s.atTime_busWrite c d _ _
  | ldHlReg q =>
    simp only [Shape.run, Machine.ldHlReg, State.atTime_r8]
    exact s.atTime_busWrite c d _ _
  | ldAToHlInc => exact congrArg (State.setHl · (s.hl + 1)) (s.atTime_busWrite c d s.hl s.a)
  | ldAToHlDec => exact congrArg (State.setHl · (s.hl - 1)) (s.atTime_busWrite c d s.hl s.a)
  | ldAbsSp x =>
    exact (congrArg (State.busWrite · (x + 1) (hiByte s.sp))
      (s.atTime_busWrite c d x (loByte s.sp))).trans (State.atTime_busWrite _ c d _ _)
  | ldFromHl q => exact loadFrom_atTime q s.hl s c d
  | ldAFromBc => exact loadFrom_atTime .a s.bc s c d
  | ldAFromDe => exact loadFrom_atTime .a s.de s c d
  | ldhAFromImm n => exact loadFrom_atTime .a (highPage n) s c d
  | ldhAFromC => exact loadFrom_atTime .a (highPage s.c) s c d
  | ldAFromAbs x => exact loadFrom_atTime .a x s c d
  | ldAFromHlInc => exact congrArg (State.setHl · (s.hl + 1)) (loadFrom_atTime .a s.hl s c d)
  | ldAFromHlDec => exact congrArg (State.setHl · (s.hl - 1)) (loadFrom_atTime .a s.hl s c d)
  | incHl | decHl | rotHl | resHl | setHlBit | aluHl | bitHl =>
    simp only [Shape.run, Machine.incHl, Machine.decHl, Machine.rotHl, Machine.resHl,
      Machine.setHlBit, Machine.aluHl, Machine.bitHl, State.atTime_busRead, State.atTime_busWrite]
    rfl
  | jpCond cc x => exact condHolds_atTime (f := Machine.jp x) cc rfl
  | jrCond cc e => exact condHolds_atTime (f := Machine.jr e) cc rfl
  | callCond cc x => exact condHolds_atTime cc (call_atTime x s c d)
  | retCond cc => exact condHolds_atTime cc (ret_atTime s c d)
  | call x => exact call_atTime x s c d
  | rst y => exact call_atTime _ s c d
  | ret => exact ret_atTime s c d
  | reti =>
    exact congrArg (fun u : State => { u with ime := true, imePending := false }) (ret_atTime s c d)
  | prefixCb => exact absurd rfl hs

/-- Settles O60: every shape runs the same at any time, and so does the fetch of the marker's second
byte. -/
theorem timeIsNotRead : Obligations.TimeIsNotRead := by
  intro i s t c d h
  refine exec_cases (P := fun i s t => exec i (s.atTime c d) = .next (t.atTime c d))
    (fun i s hi => ?_) (fun s t hp => ?_) h
  · rw [exec_eq_shape, Shape.run_atTime _ (shapeOf_ne_prefixCb hi)]
  · rw [exec_marker, State.atTime_imm8]
    exact hp

end Sys2Proof.Machine
end

section
/-!
PROOFS. Memory (20_memory.md): the read and the write contract (R60, R64 to R67) by the one question
whether the address is in a blocked region, and what an instruction leaves unchanged in memory (R86).
-/

namespace Sys2Proof.Machine

open Sys2Proof

/-! ### Blocked regions (R75) -/

theorem State.blocked_of_oam {s : State} {x : Word} (hlo : s.platform.oamLo ≤ x)
    (hhi : x ≤ s.platform.oamHi) (hb : s.oamBlocked = true) : s.blocked x = true := by
  simp [State.blocked, Platform.inOam, hlo, hhi, hb]

theorem State.blocked_of_vram {s : State} {x : Word} (hlo : s.platform.vramLo ≤ x)
    (hhi : x ≤ s.platform.vramHi) (hb : s.vramBlocked = true) : s.blocked x = true := by
  simp [State.blocked, Platform.inVram, hlo, hhi, hb]

theorem State.blocked_eq_false {s : State} {x : Word}
    (hoam : ¬ (s.platform.oamLo ≤ x ∧ x ≤ s.platform.oamHi ∧ s.oamBlocked = true))
    (hvram : ¬ (s.platform.vramLo ≤ x ∧ x ≤ s.platform.vramHi ∧ s.vramBlocked = true)) :
    s.blocked x = false := by
  refine Bool.eq_false_of_not_eq_true fun hb => ?_
  simp only [State.blocked, Platform.inOam, Platform.inVram, Bool.or_eq_true, Bool.and_eq_true,
    decide_eq_true_eq, and_assoc] at hb
  exact hb.elim hoam hvram

/-- On a platform the spec allows the ROM range is never blocked (D3). -/
theorem State.blocked_rom {s : State} (hp : s.platform.wf = true) {x : Word} (hx : x ≤ romTop) :
    s.blocked x = false := by
  obtain ⟨hoam, hvram⟩ := Platform.wf_rom hp hx
  rw [State.blocked, hoam, hvram]
  rfl

/-! ### The read contract (R60) -/

theorem State.memRead_of_blocked {s : State} {x : Word} (hb : s.blocked x = true) :
    s.memRead x = 0xFF := by
  unfold State.memRead
  rcases Bool.or_eq_true_iff.1 hb with hoam | hvram
  · rw [if_pos hoam]
  · rw [hvram]
    exact ite_self _

/-- Outside the blocked regions: the boot image, the cartridge, the live byte, in this order. -/
theorem State.memRead_of_not_blocked {s : State} {x : Word} (hb : s.blocked x = false) :
    s.memRead x =
      if x ≤ bootTop ∧ s.overlay = true then s.platform.bootImage.read x.toNat
      else if x ≤ romTop then s.platform.cartImage.read x.toNat
      else s.live x := by
  obtain ⟨hoam, hvram⟩ := Bool.or_eq_false_iff.1 hb
  have hcond : (s.overlay && decide (x ≤ bootTop)) = true ↔ x ≤ bootTop ∧ s.overlay = true := by
    rw [Bool.and_eq_true, decide_eq_true_eq, and_comm]
  unfold State.memRead
  rw [if_neg (ne_true_of_eq_false hoam), if_neg (ne_true_of_eq_false hvram)]
  exact if_congr hcond rfl rfl

/-- Settles O10: a read in a blocked region is 0xFF; any other is one of the three of
`memRead_of_not_blocked`, and no address of the ROM range lies in a region. -/
theorem readContract : Obligations.ReadContract := by
  intro s x
  refine ⟨fun hlo hhi hb => State.memRead_of_blocked (State.blocked_of_oam hlo hhi hb),
    fun hlo hhi hb => State.memRead_of_blocked (State.blocked_of_vram hlo hhi hb),
    fun hoam hvram => ?_, fun hp hx => ?_⟩
  · rw [State.memRead_of_not_blocked (State.blocked_eq_false hoam hvram)]
    refine ⟨fun hx hov => if_pos ⟨hx, hov⟩,
      fun hx hboot => (if_neg hboot).trans (if_pos hx), fun hx => ?_⟩
    have hrom : ¬ x ≤ romTop := BitVec.not_le.2 hx
    have hboot : ¬ (x ≤ bootTop ∧ s.overlay = true) := fun h =>
      hrom (BitVec.le_trans h.1 (by decide))
    exact (if_neg hboot).trans (if_neg hrom)
  · rw [State.memRead_of_not_blocked (State.blocked_rom hp hx)]
    exact ite_congr rfl (fun _ => rfl) fun _ => if_pos hx

/-! ### The write contract (R64 to R67) -/

theorem State.memWrite_rom {s : State} {x : Word} (hx : x ≤ romTop) (v : Byte) :
    s.memWrite x v = s := if_pos hx

theorem State.memWrite_of_blocked {s : State} {x : Word} (hb : s.blocked x = true) (v : Byte) :
    s.memWrite x v = s := by
  by_cases hx : x ≤ romTop
  · exact State.memWrite_rom hx v
  unfold State.memWrite
  rw [if_neg hx]
  rcases Bool.or_eq_true_iff.1 hb with hoam | hvram
  · exact if_pos hoam
  · rw [if_pos hvram, ite_self]

/-- Above ROM, outside the blocked regions, and not a register with a rule of its own: the byte is
stored (R66, R67). -/
theorem State.memWrite_plain {s : State} {x : Word} (hx : romTop < x) (hb : s.blocked x = false)
    (hboot : x ≠ s.platform.addrBootOff) (hsc : x ≠ s.platform.addrSc)
    (hdiv : x ≠ s.platform.addrDiv) (v : Byte) : s.memWrite x v = s.store x v := by
  rw [State.memWrite_eq_of_not_blocked hx hb, if_neg hboot, if_neg hsc, if_neg hdiv]
  exact ite_eq_right_iff.2 fun hsb => hsb ▸ rfl

/-- Settles O11: a store at or below ROM_TOP or in a blocked region is dropped; any other goes by its
address; and the sparse store gives back what was written. -/
theorem writeContract : Obligations.WriteContract := by
  intro s x v
  refine ⟨fun hx => State.memWrite_rom hx v,
    fun hlo hhi hb => State.memWrite_of_blocked (State.blocked_of_oam hlo hhi hb) v,
    fun hlo hhi hb => State.memWrite_of_blocked (State.blocked_of_vram hlo hhi hb) v,
    fun hx hoam hvram => ?_, fun hm y => ?_⟩
  · have hb : s.blocked x = false := State.blocked_eq_false hoam hvram
    refine ⟨fun hboot => ?_, fun hboot hsc hdiv => State.memWrite_plain hx hb hboot hsc hdiv v⟩
    rw [State.memWrite_eq_of_not_blocked hx hb, if_pos hboot, hboot]
    rfl
  · split
    next hy => exact hy ▸ Memory.read_write_same_of_wf _ _ v hm
    next hy => exact Memory.read_write_other _ v hy

/-! ### What an instruction leaves unchanged in memory (R64, R68, R86) -/

/-- Between s and u the byte at x has been left alone, and no move still scheduled can reach it. -/
structure Untouched (x : Word) (s u : State) : Prop where
  platform : u.platform = s.platform
  live : u.live x = s.live x
  moves : u.moves = [] ∨ x ≠ s.platform.addrLy ∧ x ≠ s.platform.addrIf

/-- An interleaving point reaches LY and IF alone, and nothing when no move is scheduled. -/
theorem Untouched.takeMoves {x : Word} {s u : State} (h : Untouched x s u) :
    Untouched x s u.takeMoves := by
  obtain ⟨hp, hlive, hm⟩ := h
  rcases hm with hnil | hne
  · rw [State.takeMoves_of_nil hnil]
    exact ⟨hp, hlive, .inl hnil⟩
  · obtain ⟨hly, hif⟩ := hne
    exact ⟨u.takeMoves_platform.trans hp,
      (u.takeMoves_live (hp ▸ hly) (hp ▸ hif)).trans hlive, .inr ⟨hly, hif⟩⟩

/-- A store reaches its own address, and IF when its address is SC. -/
theorem Untouched.memWrite {x y : Word} {s u : State} (h : Untouched x s u) (v : Byte)
    (hxy : x ≠ y) (hif : x = s.platform.addrIf → y ≠ s.platform.addrSc) :
    Untouched x s (u.memWrite y v) := by
  obtain ⟨hp, hlive, hm⟩ := h
  rw [← hp] at hif
  exact ⟨(u.memWrite_platform y v).trans hp, (u.memWrite_live y v hxy hif).trans hlive,
    (u.memWrite_moves y v).symm ▸ hm⟩

theorem Untouched.cells {x : Word} {s u w : State} (h : Untouched x s u) (hc : CellsOnly u w) :
    Untouched x s w := by
  rw [hc.same]
  exact ⟨h.platform, h.live, h.moves⟩

/-- A live byte that is not stored to, is not IF while SC is stored to, and that no scheduled move
can reach, is unchanged. -/
theorem Reaches.untouched {l : List Word} {s t : State} (h : Reaches l s t) {x : Word} (hx : x ∉ l)
    (hif : x = s.platform.addrIf → s.platform.addrSc ∉ l)
    (hmoves : s.moves = [] ∨ x ≠ s.platform.addrLy ∧ x ≠ s.platform.addrIf) : Untouched x s t :=
  h.preserves (fun _ hu => hu.takeMoves)
    (fun _ _ v hy hu => hu.memWrite v (fun e => hx (e ▸ hy)) fun e ey => hif e (ey ▸ hy))
    (fun _ _ hu hc => hu.cells hc) ⟨rfl, rfl, hmoves⟩

/-- Settles O57: an instruction is made of interleaving points, stores at the addresses `storedTo`
gives and changes of cells, none of which reaches such a byte. -/
theorem memoryFrame : Obligations.MemoryFrame :=
  fun _ _ _ _ h hx hif hmoves => ((exec_reaches h).untouched hx hif hmoves).live

end Sys2Proof.Machine
end

section
/-!
PROOFS. Byte accesses (20_memory.md R74, 40_engine.md R123, R124): the fetch as one immediate fetch
for each byte of the instruction, whatever moves fall between them, and the data accesses and the
length of every row (R129, R133).
-/

namespace Sys2Proof.Machine

open Sys2Proof

/-! ### Fetching one byte after the other (R107, R124) -/

/-- The row that the three bytes of successive immediate fetches decode to is the row fetched, after
as many fetches as its entry has bytes. -/
theorem fetch_eq_rounds (s : State) : s.fetch =
    ((baseEntry s.imm8.1).row s.imm8.2.imm8.1 s.imm8.2.imm8.2.imm8.1,
      rounds (baseEntry s.imm8.1).length (fun t => t.imm8.2) s) := by
  unfold State.fetch
  dsimp only
  cases baseEntry s.imm8.1 <;> rfl

theorem fetch_of_imm8_decode {s : State} {i : Instr} {rest : List Byte}
    (hd : decode [s.imm8.1, s.imm8.2.imm8.1, s.imm8.2.imm8.2.imm8.1] = .ok i rest) :
    s.fetch = (i, rounds (encode i).length (fun t => t.imm8.2) s) := by
  rw [decode_three] at hd
  injection hd with hi _
  subst hi
  rw [fetch_eq_rounds, (occupies_iff.1 (baseEntry_occupies _ _ _)).2]

/-- Settles O43: nothing is dispatched, so the step is that of the row fetched; fetching changes
neither F nor the platform, from which the cost is taken. -/
theorem stepFetchesThroughTheContract : Obligations.StepFetchesThroughTheContract := by
  intro s i rest hmode hdispatch u hmapped hdecode v
  have hplatform : u.platform = s.platform := by simp [u, State.promote_eq]
  have hf : v.f = s.f := by
    have hfetched : v.f = u.f := 
      rounds_proj State.f (f := fun t => t.imm8.2) (fun t => t.takeMoves_f) _ u
    rw [hfetched]
    simp [u, State.promote_eq]
  have hcond : ¬ (u.imm8.1 ≠ 0xCB ∧ u.imm8.1 ∈ u.platform.moreUnmapped) := by
    rw [hplatform]
    tauto
  have hstep : step s = runInstruction u := by
    rw [step, driverStep, hmode]
    dsimp only
    rw [runBoundary, hdispatch]
  refine ⟨_, exec_eq_shape i v, ?_⟩
  rw [hstep, runInstruction]
  dsimp only
  rw [if_neg hcond, fetch_of_imm8_decode hdecode]
  dsimp only
  rw [exec_eq_shape, hplatform, hf]

/-! ### Lengths, data accesses and costs by shape (R104, R123, R133) -/

/-- The bytes of a row of the shape; the marker is counted alone. -/
def Shape.bytes : Shape → Nat
  | .ldPair _ _ | .ldAbsSp _ | .jpCond _ _ | .jp _ | .callCond _ _ | .call _ | .ldAToAbs _ |
    .ldAFromAbs _ => 3
  | .ldImm _ _ | .stop _ | .jr _ | .jrCond _ _ | .ldHlImm _ | .aluImm _ _ | .ldhImmFromA _ |
    .addSp _ | .ldhAFromImm _ | .ldHlSp _ | .rotReg _ _ | .rotHl _ | .bitReg _ _ | .bitHl _ |
    .resReg _ _ | .resHl _ | .setReg _ _ | .setHlBit _ => 2
  | _ => 1

/-- How many data bytes a row of the shape reads and writes, F being f at entry. -/
def Shape.accesses (f : Byte) : Shape → Nat
  | .ldAToBc | .ldAFromBc | .ldAToDe | .ldAFromDe | .ldAToHlInc | .ldAFromHlInc | .ldAToHlDec |
    .ldAFromHlDec | .ldHlImm _ | .ldFromHl _ | .ldHlReg _ | .aluHl _ | .ldhImmFromA _ |
    .ldhCFromA | .ldAToAbs _ | .ldhAFromImm _ | .ldhAFromC | .ldAFromAbs _ | .bitHl _ => 1
  | .ldAbsSp _ | .incHl | .decHl | .pop _ | .push _ | .rst _ | .ret | .call _ | .reti | .rotHl _ |
    .resHl _ | .setHlBit _ => 2
  | .retCond cc | .callCond cc _ => if condHolds cc f then 2 else 0
  | _ => 0

/-- The declared cost of a row of the shape, F being f at entry (R370). -/
def Shape.cost (f : Byte) : Shape → Nat
  | .prefixCb => 0
  | .ldAToBc | .incPair _ | .ldImm _ _ | .addHl _ | .ldAFromBc | .decPair _ | .ldAToDe |
    .ldAFromDe | .ldAToHlInc | .ldAFromHlInc | .ldAToHlDec | .ldAFromHlDec | .ldFromHl _ |
    .ldHlReg _ | .aluHl _ | .aluImm _ _ | .ldhCFromA | .ldhAFromC | .ldSpHl | .rotReg _ _ |
    .bitReg _ _ | .resReg _ _ | .setReg _ _ => 2
  | .ldPair _ _ | .jr _ | .incHl | .decHl | .ldHlImm _ | .pop _ | .ldhImmFromA _ |
    .ldhAFromImm _ | .ldHlSp _ | .bitHl _ => 3
  | .jp _ | .push _ | .rst _ | .ret | .reti | .addSp _ | .ldAToAbs _ | .ldAFromAbs _ | .rotHl _ |
    .resHl _ | .setHlBit _ => 4
  | .ldAbsSp _ => 5
  | .call _ => 6
  | .jrCond cc _ => if condHolds cc f then 3 else 2
  | .jpCond cc _ => if condHolds cc f then 4 else 3
  | .retCond cc => if condHolds cc f then 5 else 2
  | .callCond cc _ => if condHolds cc f then 6 else 3
  | _ => 1

theorem length_encode_eq_shape (i : Instr) : (encode i).length = (shapeOf i).bytes := by
  cases i <;> rfl

theorem dataAccesses_eq_shape (i : Instr) (f : Byte) :
    dataAccesses i f = (shapeOf i).accesses f := by
  cases i <;> rfl

theorem cost_eq_shape (i : Instr) (f : Byte) : cost i f = (shapeOf i).cost f := by
  cases i <;> rfl

/-- An instruction makes at most five accesses: only LD (a16),SP and a call make as many. -/
theorem Shape.accesses_le_five (sh : Shape) (f : Byte) : sh.bytes + sh.accesses f ≤ 5 := by
  cases sh with
  | retCond cc =>
    exact (by decide : ∀ b : Bool, 1 + (if b then 2 else 0) ≤ 5) (condHolds cc f)
  | callCond cc =>
    exact (by decide : ∀ b : Bool, 3 + (if b then 2 else 0) ≤ 5) (condHolds cc f)
  | _ => exact Nat.le_of_ble_eq_true rfl

/-- Each access takes a machine cycle, but for the second byte of STOP (R133). The marker alone costs
nothing. -/
theorem Shape.accesses_le_cost {sh : Shape} (hmarker : sh ≠ .prefixCb) (hstop : ∀ n, sh ≠ .stop n)
    (f : Byte) : sh.bytes + sh.accesses f ≤ sh.cost f := by
  cases sh with
  | prefixCb => exact absurd rfl hmarker
  | stop n => exact absurd rfl (hstop n)
  | retCond cc =>
    exact (by decide : ∀ b : Bool, 1 + (if b then 2 else 0) ≤ if b then 5 else 2) (condHolds cc f)
  | callCond cc =>
    exact (by decide : ∀ b : Bool, 3 + (if b then 2 else 0) ≤ if b then 6 else 3) (condHolds cc f)
  | jpCond cc => exact (by decide : ∀ b : Bool, 3 ≤ if b then 4 else 3) (condHolds cc f)
  | jrCond cc => exact (by decide : ∀ b : Bool, 2 ≤ if b then 3 else 2) (condHolds cc f)
  | _ => exact Nat.le_of_ble_eq_true rfl

theorem shapeOf_ne_stop {i : Instr} (h : ∀ n, i ≠ .stop_n8 n) (n : Byte) :
    shapeOf i ≠ .stop n := by
  intro hshape
  have hrow := soleRow_getD i
  rw [hshape] at hrow
  exact h n hrow.symm

/-! ### The batches a shape consumes (R74, R326) -/

/-- A shape consumes one batch of moves for each data byte it reads or writes. -/
theorem Shape.run_moves (sh : Shape) (hs : sh ≠ .prefixCb) (s : State) :
    (sh.run s).moves = s.moves.drop (sh.accesses s.f) := by
  have two : s.moves.tail.tail = s.moves.drop 2 := by
    rw [← List.drop_one, ← List.drop_one, List.drop_drop]
  have hread : s.takeMoves.moves.tail = s.moves.drop 2 := by rw [s.takeMoves_moves, two]
  have hpop : s.pop16.2.moves = s.moves.drop 2 := (State.takeMoves_moves s.takeMoves).trans hread
  have hpush : ∀ v, (s.push16 v).moves = s.moves.drop 2 := fun v => (s.push16_moves v).trans two
  have one : s.takeMoves.moves = s.moves.drop 1 := s.takeMoves_moves.trans List.drop_one.symm
  cases sh with
  | nop | jp | jpHl | jr | ldSpHl | di | ei | halt | stop | unmapped => rfl
  | ldPair p n | incPair p | decPair p => exact s.setR16_moves p _
  | ldImm q n | ldReg q q' | resReg b q | setReg b q => exact s.setR8_moves q _
  | incReg q | decReg q | rotReg op q => exact s.setR8_moves q _
  | rotA | daa | cpl | scf | ccf | bitReg | addHl | addSp | ldHlSp | aluReg | aluImm => rfl
  | ldAToBc | ldAToDe | ldHlImm | ldHlReg | ldhImmFromA | ldhCFromA | ldAToAbs | ldAToHlInc |
    ldAToHlDec => exact (State.memWrite_moves s.takeMoves _ _).trans one
  | ldFromHl q => exact (State.setR8_moves s.takeMoves q _).trans one
  | ldAFromBc | ldAFromDe | ldhAFromImm | ldhAFromC | ldAFromAbs | ldAFromHlInc | ldAFromHlDec |
    aluHl | bitHl => exact one
  | ldAbsSp x => exact (s.busWrite16_moves x s.sp).trans two
  | incHl | decHl | rotHl | resHl | setHlBit =>
    exact (State.busWrite_moves s.takeMoves _ _).trans hread
  | push | call | rst => exact hpush _
  | ret | reti => exact hpop
  | pop p => exact (State.setStack16_moves s.pop16.2 p _).trans hpop
  | jpCond cc x =>
    simp only [Shape.run, Machine.jpCond]
    split <;> rfl
  | jrCond cc e =>
    simp only [Shape.run, Machine.jrCond]
    split <;> rfl
  | callCond cc x =>
    show (if condHolds cc s.f then Machine.call x s else s).moves =
      s.moves.drop (if condHolds cc s.f then 2 else 0)
    split
    · exact hpush _
    · rfl
  | retCond cc =>
    show (if condHolds cc s.f then Machine.ret s else s).moves =
      s.moves.drop (if condHolds cc s.f then 2 else 0)
    split
    · exact hpop
    · rfl
  | prefixCb => exact absurd rfl hs

/-- Settles O59: the accesses, the length and the cost of a row are those of its shape. (The name
`dataAccesses` is the model's table.) -/
theorem exec_dataAccesses : Obligations.DataAccesses := by
  intro i s t hi h
  have hs : shapeOf i ≠ .prefixCb := shapeOf_ne_prefixCb hi
  rw [exec_eq_shape] at h
  injection h with h
  subst h
  rw [dataAccesses_eq_shape, length_encode_eq_shape, cost_eq_shape]
  exact ⟨Shape.run_moves _ hs s, Shape.accesses_le_five _ _,
    fun hstop => Shape.accesses_le_cost hs (shapeOf_ne_stop hstop) _⟩

end Sys2Proof.Machine
end

section
/-!
PROOFS. The encoding (30_encoding.md R100 to R115): decoding and encoding undo each other, every
byte leads to one outcome, the two tables by their fields, and the unmapped bytes (47_system.md
R286).
-/

namespace Sys2Proof

/-! ### Decoding undoes encoding (R100, R106, R107) -/

/-- The family `RoundTrip` as a whole: a row with a word puts it together again from its two bytes,
and for every other row the decoder computes. -/
theorem Laws.RoundTrip.every_row (i : Instr) : Statement i := by
  cases i with
  | prefix_cb => exact fun hi => nomatch hi
  | ld_bc_n16 | ld_de_n16 | ld_hl_n16 | ld_sp_n16 | ld_ma16_sp | ld_ma16_a | ld_a_ma16 | jp_a16 |
    jp_nz_a16 | jp_z_a16 | jp_nc_a16 | jp_c_a16 | call_a16 | call_nz_a16 | call_z_a16 |
    call_nc_a16 | call_c_a16 => exact of_word rfl fun _ _ _ => rfl
  | _ => exact fun _ _ => rfl

/-- Settles O1: the round trip of each row. -/
theorem decodeUndoesEncode : Obligations.DecodeUndoesEncode := Laws.RoundTrip.every_row

/-! ### Encoding undoes decoding (R104, R107, R115) -/

/-- The rows of an entry are encoded by the opcode byte and the operand's bytes, the low byte of a
word first; only 0xCB is the marker. -/
def Entry.EncodedBy (op n : Byte) (w : Word) : Entry → Prop
  | .plain i => encode i = [op]
  | .byte f => encode (f n) = [op, n]
  | .word f => encode (f w) = [op, loByte w, hiByte w]
  | .marker => op = 0xCB

/-- The entries of the base table, one by one (R112). -/
theorem baseEntry_encodedBy (op n : Byte) (w : Word) : (baseEntry op).EncodedBy op n w := by
  have h : op = BitVec.ofNat 8 op.toNat := by simp
  have hn := op.isLt
  rw [h]
  generalize op.toNat = k at hn
  change k < 256 at hn
  interval_cases k <;> exact rfl

/-- The row an opcode byte and the two bytes after it give is encoded by as many of these bytes as
its entry takes. -/
theorem encode_row (op lo hi : Byte) :
    encode ((baseEntry op).row lo hi) = [op, lo, hi].take (baseEntry op).length := by
  have h := baseEntry_encodedBy op lo (word lo hi)
  generalize baseEntry op = e at h
  cases e with
  | plain | byte => exact h
  | word f =>
    rw [Entry.EncodedBy, Machine.loByte_word, Machine.hiByte_word] at h
    exact h
  | marker =>
    have hop : op = 0xCB := h
    rw [hop]
    exact encode_prefixedEntry lo

/-- What the decoder accepts starts with the bytes that the entry of its first byte takes, and the
decoder gives their row. Of lo and hi only the bytes taken are determined. -/
theorem row_of_decode {bytes rest : List Byte} {i : Instr} (h : decode bytes = .ok i rest) :
    ∃ op lo hi, i = (baseEntry op).row lo hi ∧
      bytes = [op, lo, hi].take (baseEntry op).length ++ rest := by
  unfold decode at h
  split at h
  case h_1 => exact nomatch h
  case h_2 op tail =>
    split at h
    case h_1 he =>
      cases h
      exact ⟨op, 0, 0, by rw [he]; rfl, by rw [he]; rfl⟩
    case h_2 lo _ he =>
      cases h
      exact ⟨op, lo, 0, by rw [he]; rfl, by rw [he]; rfl⟩
    case h_3 lo hi _ he =>
      cases h
      exact ⟨op, lo, hi, by rw [he]; rfl, by rw [he]; rfl⟩
    case h_4 lo _ he =>
      cases h
      exact ⟨op, lo, 0, by rw [he]; rfl, by rw [he]; rfl⟩
    case h_5 => exact nomatch h

/-- Settles O2: an accepted list is the bytes of a row, which is encoded by them. -/
theorem encodeUndoesDecode : Obligations.EncodeUndoesDecode := by
  intro bytes i rest h
  obtain ⟨op, lo, hi, rfl, rfl⟩ := row_of_decode h
  exact ⟨(occupies_iff.1 (baseEntry_occupies op lo hi)).1, by rw [encode_row]⟩

/-! ### Every byte leads to one outcome (R107) -/

/-- Three bytes are enough, whatever follows: the row of the first is given. -/
theorem decode_row (op lo hi : Byte) (rest : List Byte) : decode (op :: lo :: hi :: rest) =
    .ok ((baseEntry op).row lo hi) ((op :: lo :: hi :: rest).drop (baseEntry op).length) := by
  unfold decode
  dsimp only
  cases baseEntry op <;> rfl

theorem Entry.length_bounds (e : Entry) : 1 ≤ e.length ∧ e.length ≤ 3 := by
  cases e <;> simp [Entry.length]

/-- Settles O3: three bytes give the row of the first; for 0xCB that is the prefixed table's. -/
theorem decodeIsTotal : Obligations.DecodeIsTotal := by
  refine ⟨fun b0 b1 b2 rest => ?_, fun b1 rest => rfl⟩
  obtain ⟨hmin, hmax⟩ := (baseEntry b0).length_bounds
  exact ⟨_, _, hmin, hmax, decode_row b0 b1 b2 rest⟩

/-! ### The base table by its fields (R108 to R112) -/

theorem encode_ld16 (p : Pair) (n : Word) : encode (.ld16 p n) =
    [BitVec.ofNat 8 (0x01 + 16 * p.code), loByte n, hiByte n] := by
  cases p <;> rfl

theorem encode_addHl (p : Pair) : encode (.addHl p) = [BitVec.ofNat 8 (0x09 + 16 * p.code)] := by
  cases p <;> rfl

theorem encode_inc16 (p : Pair) : encode (.inc16 p) = [BitVec.ofNat 8 (0x03 + 16 * p.code)] := by
  cases p <;> rfl

theorem encode_dec16 (p : Pair) : encode (.dec16 p) = [BitVec.ofNat 8 (0x0B + 16 * p.code)] := by
  cases p <;> rfl

theorem encode_pop (p : StackPair) : encode (.pop p) = [BitVec.ofNat 8 (0xC1 + 16 * p.code)] := by
  cases p <;> rfl

theorem encode_push (p : StackPair) : encode (.push p) = [BitVec.ofNat 8 (0xC5 + 16 * p.code)] := by
  cases p <;> rfl

theorem encode_inc8 (r : Reg8) : encode (.inc8 r) = [BitVec.ofNat 8 (0x04 + 8 * r.code)] := by
  cases r <;> rfl

theorem encode_dec8 (r : Reg8) : encode (.dec8 r) = [BitVec.ofNat 8 (0x05 + 8 * r.code)] := by
  cases r <;> rfl

theorem encode_ld8Imm (r : Reg8) (n : Byte) :
    encode (.ld8Imm r n) = [BitVec.ofNat 8 (0x06 + 8 * r.code), n] := by
  cases r <;> rfl

theorem encode_ld8FromHl (r : Reg8) :
    encode (.ld8FromHl r) = [BitVec.ofNat 8 (0x46 + 8 * r.code)] := by
  cases r <;> rfl

theorem encode_ldHlFrom8 (r : Reg8) : encode (.ldHlFrom8 r) = [BitVec.ofNat 8 (0x70 + r.code)] := by
  cases r <;> rfl

theorem encode_ld8 (rd rs : Reg8) :
    encode (.ld8 rd rs) = [BitVec.ofNat 8 (0x40 + 8 * rd.code + rs.code)] := by
  cases rd <;> cases rs <;> rfl

theorem encode_alu8 (op : AluOp) (r : Reg8) :
    encode (.alu8 op r) = [BitVec.ofNat 8 (0x80 + 8 * op.code + r.code)] := by
  cases op <;> cases r <;> rfl

theorem encode_aluHl (op : AluOp) : encode (.aluHl op) = [BitVec.ofNat 8 (0x86 + 8 * op.code)] := by
  cases op <;> rfl

theorem encode_aluImm (op : AluOp) (n : Byte) :
    encode (.aluImm op n) = [BitVec.ofNat 8 (0xC6 + 8 * op.code), n] := by
  cases op <;> rfl

theorem encode_retCond (cc : Cond) :
    encode (.retCond cc) = [BitVec.ofNat 8 (0xC0 + 8 * cc.code)] := by
  cases cc <;> rfl

theorem encode_jrCond (cc : Cond) (e : Byte) :
    encode (.jrCond cc e) = [BitVec.ofNat 8 (0x20 + 8 * cc.code), e] := by
  cases cc <;> rfl

theorem encode_jpCond (cc : Cond) (a : Word) :
    encode (.jpCond cc a) = [BitVec.ofNat 8 (0xC2 + 8 * cc.code), loByte a, hiByte a] := by
  cases cc <;> rfl

theorem encode_callCond (cc : Cond) (a : Word) :
    encode (.callCond cc a) = [BitVec.ofNat 8 (0xC4 + 8 * cc.code), loByte a, hiByte a] := by
  cases cc <;> rfl

theorem encode_rst (y : Fin 8) : encode (.rst y) = [BitVec.ofNat 8 (0xC7 + 8 * y.val)] := by
  fin_cases y <;> rfl

theorem encode_unmapped (u : Unmapped) : encode (.unmapped u) = [u.code] := by
  cases u <;> rfl

/-- Settles O4: each block by the values of its field; a row without a field is the encoder's own
line. -/
theorem baseTableByFields : Obligations.BaseTableByFields :=
  ⟨encode_ld16,
    fun p => ⟨encode_addHl p, encode_inc16 p, encode_dec16 p⟩,
    fun p => ⟨encode_pop p, encode_push p⟩,
    fun r => ⟨encode_inc8 r, encode_dec8 r, encode_ld8Imm r, encode_ld8FromHl r,
      encode_ldHlFrom8 r⟩,
    rfl, rfl, fun _ => rfl,
    encode_ld8,
    fun op => ⟨encode_alu8 op, encode_aluHl op, encode_aluImm op⟩,
    fun cc => ⟨encode_retCond cc, encode_jrCond cc, encode_jpCond cc, encode_callCond cc⟩,
    encode_rst,
    ⟨rfl, rfl, rfl, rfl, rfl, rfl, rfl, rfl⟩,
    ⟨rfl, rfl, rfl, rfl, rfl, rfl, rfl, rfl⟩,
    ⟨rfl, fun _ => rfl, fun _ => rfl, fun _ => rfl, rfl, rfl, rfl⟩,
    ⟨fun _ => rfl, fun _ => rfl, fun _ => rfl, fun _ => rfl, rfl, rfl, fun _ => rfl, fun _ => rfl⟩,
    ⟨rfl, rfl, rfl, rfl, fun _ => rfl, fun _ => rfl, rfl, encode_unmapped⟩⟩

/-! ### The prefixed table by its fields (R113) -/

theorem encode_rot8 (op : RotOp) (r : Reg8) :
    encode (.rot8 op r) = [0xCB, BitVec.ofNat 8 (8 * op.code + r.code)] := by
  cases op <;> cases r <;> rfl

theorem encode_rotHl (op : RotOp) :
    encode (.rotHl op) = [0xCB, BitVec.ofNat 8 (8 * op.code + 6)] := by
  cases op <;> rfl

theorem encode_bit8 (b : Fin 8) (r : Reg8) :
    encode (.bit8 b r) = [0xCB, BitVec.ofNat 8 (0x40 + 8 * b.val + r.code)] := by
  fin_cases b <;> cases r <;> rfl

theorem encode_res8 (b : Fin 8) (r : Reg8) :
    encode (.res8 b r) = [0xCB, BitVec.ofNat 8 (0x80 + 8 * b.val + r.code)] := by
  fin_cases b <;> cases r <;> rfl

theorem encode_set8 (b : Fin 8) (r : Reg8) :
    encode (.set8 b r) = [0xCB, BitVec.ofNat 8 (0xC0 + 8 * b.val + r.code)] := by
  fin_cases b <;> cases r <;> rfl

theorem encode_bitHl (b : Fin 8) :
    encode (.bitHl b) = [0xCB, BitVec.ofNat 8 (0x46 + 8 * b.val)] := by
  fin_cases b <;> rfl

theorem encode_resHl (b : Fin 8) :
    encode (.resHl b) = [0xCB, BitVec.ofNat 8 (0x86 + 8 * b.val)] := by
  fin_cases b <;> rfl

theorem encode_setHl (b : Fin 8) :
    encode (.setHl b) = [0xCB, BitVec.ofNat 8 (0xC6 + 8 * b.val)] := by
  fin_cases b <;> rfl

/-- Settles O5: each block by its operation or bit number and its register; CB CB is one of the words
the decoder reads. -/
theorem prefixedTableByFields : Obligations.PrefixedTableByFields :=
  ⟨fun op => ⟨encode_rot8 op, encode_rotHl op⟩,
    fun b => ⟨fun r => ⟨encode_bit8 b r, encode_res8 b r, encode_set8 b r⟩,
      encode_bitHl b, encode_resHl b, encode_setHl b⟩,
    fun op2 => ⟨Machine.prefixedEntry_wellFormed op2, encode_prefixedEntry op2⟩,
    decodeUndoesEncode .set_1_e rfl []⟩

/-- Settles O7: the words are closed, and the decoder computes their instructions. -/
theorem sampleWordsDecode : Obligations.SampleWordsDecode := by
  unfold Obligations.SampleWordsDecode
  decide

end Sys2Proof

namespace Sys2Proof.Machine

open Sys2Proof

/-! ### The unmapped bytes (R114, R286) -/

theorem unmapped_wellFormed (u : Unmapped) : (Instr.unmapped u).WellFormed := by
  cases u <;> rfl

theorem Unmapped.exists_code_eq_iff (b : Byte) : (∃ u : Unmapped, u.code = b) ↔
    b ∈ ([0xD3, 0xDB, 0xDD, 0xE3, 0xE4, 0xEB, 0xEC, 0xED, 0xF4, 0xFC, 0xFD] : List Byte) := by
  constructor
  · rintro ⟨u, rfl⟩
    cases u <;> decide
  · have hcode : ∀ c ∈
        ([0xD3, 0xDB, 0xDD, 0xE3, 0xE4, 0xEB, 0xEC, 0xED, 0xF4, 0xFC, 0xFD] : List Byte),
        (unmappedOfCode c).code = c := by decide
    exact fun hb => ⟨_, hcode b hb⟩

/-- A byte decodes by itself to an unmapped row exactly when it is that row's code. -/
theorem decode_eq_unmapped_iff (b : Byte) (rest : List Byte) (u : Unmapped) :
    decode (b :: rest) = .ok (.unmapped u) rest ↔ u.code = b := by
  constructor
  · intro h
    obtain ⟨_, hbytes⟩ := encodeUndoesDecode _ _ _ h
    rw [encode_unmapped] at hbytes
    exact (List.head_eq_of_cons_eq hbytes).symm
  · rintro rfl
    have h := decodeUndoesEncode (.unmapped u) (unmapped_wellFormed u) rest
    rw [encode_unmapped] at h
    exact h

theorem exec_unmapped (u : Unmapped) (s : State) :
    exec (.unmapped u) s = .next (unmapped u.code s) := by
  cases u <;> rfl

/-- In MODE RUN with nothing to dispatch a step runs the instruction at PC, the moves of the boundary
made and the delayed enable promoted. -/
theorem step_eq_runInstruction {s : State} (hmode : s.mode = .run)
    (hd : s.takeMoves.toDispatch = none) : step s = runInstruction s.takeMoves.promote := by
  rw [step, driverStep, hmode]
  dsimp only
  rw [runBoundary, hd]

/-- A byte the platform adds to `UNMAPPED` is fetched and reported, and nothing else is read (R114,
R286). -/
theorem runInstruction_of_added_unmapped {s : State} (hadded : s.imm8.1 ∈ s.platform.moreUnmapped)
    (hcb : s.imm8.1 ≠ 0xCB) : runInstruction s = .next (account
      (s.platform.unmappedCost s.imm8.1) (unmapped s.imm8.1 s.imm8.2)) := by
  rw [runInstruction]
  dsimp only
  rw [if_pos ⟨hcb, hadded⟩]

/-- The address in the report is the one the byte was fetched from: fetching moves PC past it, and the
moves before it make no report. -/
theorem unmapped_imm8 (op : Byte) (s : State) : unmapped op s.imm8.2 =
    { s.imm8.2 with reports := s.reports ++ [⟨op, s.pc⟩] } := by
  simp [unmapped]

/-- Settles O6: the unmapped rows are encoded by their codes, so O1 and O2 give the eleven bytes; an
added byte is fetched like any other and reported at PC, which moves and promotion leave alone. -/
theorem unmappedBytes : Obligations.UnmappedBytes := by
  refine ⟨fun b rest => ?_, exec_unmapped, ?_⟩
  · rw [← Unmapped.exists_code_eq_iff]
    exact exists_congr (decode_eq_unmapped_iff b rest)
  · intro s hmode hd u op hadded hcb
    have hplatform : u.platform = s.platform := by simp [u, State.promote_eq]
    have hreports : u.reports = s.reports := by simp [u, State.promote_eq]
    have hpc : u.pc = s.pc := by simp [u, State.promote_eq]
    rw [step_eq_runInstruction hmode hd,
      runInstruction_of_added_unmapped (hplatform ▸ hadded) hcb, unmapped_imm8, hplatform, hreports,
      hpc]

end Sys2Proof.Machine
end

section
/-!
PROOFS. Control transfer (46_control.md R260 to R265): the jumps, taken and not.
-/

namespace Sys2Proof.Machine

open Sys2Proof

/-! ### Conditional jumps (R110, R262, R265) -/

theorem exec_jpCond (cc : Cond) (x : Word) (s : State) :
    exec (.jpCond cc x) s = .next (jpCond cc x s) := by
  cases cc <;> rfl

theorem exec_jrCond (cc : Cond) (e : Byte) (s : State) :
    exec (.jrCond cc e) s = .next (jrCond cc e s) := by
  cases cc <;> rfl

theorem cost_jpCond (cc : Cond) (x : Word) (f : Byte) :
    cost (.jpCond cc x) f = if condHolds cc f then 4 else 3 := by
  cases cc <;> rfl

theorem cost_jrCond (cc : Cond) (e f : Byte) :
    cost (.jrCond cc e) f = if condHolds cc f then 3 else 2 := by
  cases cc <;> rfl

/-- Taken or not, a conditional jump sets PC alone. -/
theorem jpCond_eq (cc : Cond) (x : Word) (s : State) :
    jpCond cc x s = { s with pc := if condHolds cc s.f then x else s.pc } := by
  unfold jpCond
  split <;> rfl

theorem jrCond_eq (cc : Cond) (e : Byte) (s : State) : jrCond cc e s =
    { s with pc := if condHolds cc s.f then s.pc + e.signExtend 16 else s.pc } := by
  unfold jrCond
  split <;> rfl

/-- Settles O36: the unconditional jumps by their definitions, the conditional ones by whether the
condition holds. -/
theorem jumpsAndConditions : Obligations.JumpsAndConditions :=
  ⟨fun _ => ⟨rfl, rfl, rfl, rfl⟩, rfl,
    fun _ _ => ⟨rfl, fun _ => rfl, rfl⟩,
    fun cc x s => ⟨encode_jpCond cc x, cost_jpCond cc x,
      (exec_jpCond cc x s).trans (congrArg _ (jpCond_eq cc x s))⟩,
    fun _ => ⟨rfl, fun _ => rfl, rfl⟩,
    fun _ _ => ⟨rfl, fun _ => rfl, rfl⟩,
    fun cc e s => ⟨encode_jrCond cc e, cost_jrCond cc e,
      (exec_jrCond cc e s).trans (congrArg _ (jrCond_eq cc e s))⟩⟩

end Sys2Proof.Machine
end

section
/-!
PROOFS. Where the driver is stuck (40_engine.md R120; 60_exceptions.md R300, R332): a step stops in
MODE STOPPED and nowhere else, since no meaning faults or is refused.
-/

namespace Sys2Proof.Machine

open Sys2Proof

/-- The added byte is reported; any other byte's row runs, and no row stops (R120, R286, R300). -/
theorem exists_runInstruction_eq_next (s : State) : ∃ t, runInstruction s = .next t := by
  unfold runInstruction
  dsimp only
  split
  next => exact ⟨_, rfl⟩
  next => exact ⟨_, by rw [exec_eq_shape]⟩

theorem exists_runBoundary_eq_next (s : State) : ∃ t, runBoundary s = .next t := by
  unfold runBoundary
  split
  next => exact ⟨_, rfl⟩
  next => exact exists_runInstruction_eq_next _

theorem step_of_stopped {s : State} (hmode : s.mode = .stopped) : step s = .fault .stopped := by
  rw [step, driverStep, hmode]

/-- RUN goes to the boundary; HALT idles, or wakes and goes to the boundary (R120, R330, R331). -/
theorem exists_step_eq_next {s : State} (h : s.Enabled) : ∃ t, step s = .next t := by
  unfold step driverStep
  split
  next hmode => exact absurd hmode h
  next => exact exists_runBoundary_eq_next _
  next =>
    dsimp only
    split
    next => exact ⟨_, rfl⟩
    next => exact exists_runBoundary_eq_next _

theorem enabled_of_step_eq_next {s t : State} (h : step s = .next t) : s.Enabled :=
  fun hmode => nomatch h.symm.trans (step_of_stopped hmode)

/-- Settles O48: an instruction answers what its shape does; a step that is not STOPPED ends in an
idle cycle, a dispatch, a report or an instruction, and each answers a next state. -/
theorem onlyStoppedIsStuck : Obligations.OnlyStoppedIsStuck :=
  ⟨fun i s => ⟨_, exec_eq_shape i s⟩,
    fun _ => ⟨exists_step_eq_next, fun ⟨_, h⟩ => enabled_of_step_eq_next h⟩,
    fun _ => step_of_stopped⟩

end Sys2Proof.Machine
end

section
/-!
PROOFS. The 8-bit loads (41_load8.md R140 to R158): between registers, from memory and to memory.
-/

namespace Sys2Proof.Machine

open Sys2Proof

/-- What a row costs and does is what its shape costs and does. -/
theorem cost_and_exec_of_shape {i : Instr} (sh : Shape) (h : shapeOf i = sh) (s : State) :
    (∀ f, cost i f = sh.cost f) ∧ exec i s = .next (sh.run s) := by
  subst h
  exact ⟨cost_eq_shape i, exec_eq_shape i s⟩

/-! ### The shapes of the rows that name a register (R140 to R143) -/

theorem shapeOf_ld8 (rd rs : Reg8) : shapeOf (.ld8 rd rs) = .ldReg rd rs := by
  cases rd <;> cases rs <;> rfl

theorem shapeOf_ld8Imm (rd : Reg8) (n : Byte) : shapeOf (.ld8Imm rd n) = .ldImm rd n := by
  cases rd <;> rfl

theorem shapeOf_ld8FromHl (rd : Reg8) : shapeOf (.ld8FromHl rd) = .ldFromHl rd := by
  cases rd <;> rfl

theorem shapeOf_ldHlFrom8 (r : Reg8) : shapeOf (.ldHlFrom8 r) = .ldHlReg r := by
  cases r <;> rfl

/-! ### The three kinds of load -/

/-- Settles O15: a copy and an immediate load have the encoding of their block in the base table,
and their shapes only set the destination. -/
theorem loadRegister : Obligations.LoadRegister :=
  ⟨fun rd rs s => ⟨encode_ld8 rd rs, cost_and_exec_of_shape _ (shapeOf_ld8 rd rs) s⟩,
    fun rd n s => ⟨encode_ld8Imm rd n, cost_and_exec_of_shape _ (shapeOf_ld8Imm rd n) s⟩⟩

/-- Settles O16: each shape is `loadFrom` at an address of the state on entry, and the HL+ and HL-
forms then set HL. -/
theorem loadFromMemory : Obligations.LoadFromMemory := fun s =>
  ⟨fun rd => ⟨encode_ld8FromHl rd, cost_and_exec_of_shape _ (shapeOf_ld8FromHl rd) s⟩,
    ⟨rfl, cost_and_exec_of_shape .ldAFromBc rfl s⟩,
    ⟨rfl, cost_and_exec_of_shape .ldAFromDe rfl s⟩,
    fun x => ⟨rfl, cost_and_exec_of_shape (.ldAFromAbs x) rfl s⟩,
    ⟨rfl, cost_and_exec_of_shape .ldhAFromC rfl s⟩,
    fun n => ⟨rfl, cost_and_exec_of_shape (.ldhAFromImm n) rfl s⟩,
    ⟨rfl, cost_and_exec_of_shape .ldAFromHlInc rfl s⟩,
    ⟨rfl, cost_and_exec_of_shape .ldAFromHlDec rfl s⟩⟩

/-- Settles O17: each shape is `busWrite`, the moves and then the write contract, at an address of
the state on entry; the HL+ and HL- forms then set HL, whatever the contract did with the byte. -/
theorem storeToMemory : Obligations.StoreToMemory := fun s =>
  ⟨fun r => ⟨encode_ldHlFrom8 r, cost_and_exec_of_shape _ (shapeOf_ldHlFrom8 r) s⟩,
    fun n => ⟨rfl, cost_and_exec_of_shape (.ldHlImm n) rfl s⟩,
    ⟨rfl, cost_and_exec_of_shape .ldAToBc rfl s⟩,
    ⟨rfl, cost_and_exec_of_shape .ldAToDe rfl s⟩,
    fun x => ⟨rfl, cost_and_exec_of_shape (.ldAToAbs x) rfl s⟩,
    ⟨rfl, cost_and_exec_of_shape .ldhCFromA rfl s⟩,
    fun n => ⟨rfl, cost_and_exec_of_shape (.ldhImmFromA n) rfl s⟩,
    ⟨rfl, cost_and_exec_of_shape .ldAToHlInc rfl s⟩,
    ⟨rfl, cost_and_exec_of_shape .ldAToHlDec rfl s⟩⟩

end Sys2Proof.Machine
end

section
/-!
PROOFS. The 16-bit loads and SP offset forms (42_load16_stack.md R162 to R165; 44_alu16.md R228),
and the stack: the helper (R160, R161), PUSH and POP (R166 to R169), and that what a push, a call, a
restart or a dispatch puts on the stack comes back (46_control.md R266, R268, R270; 60_exceptions.md
R309).
-/

namespace Sys2Proof.Machine

open Sys2Proof

/-! ### The 16-bit loads and the SP offset forms (R162 to R165, R228) -/

theorem shapeOf_ld16 (p : Pair) (n : Word) : shapeOf (.ld16 p n) = .ldPair p n := by
  cases p <;> rfl

/-- Adding the sign-extended offset modulo 65536 is adding the two as integers (R8). -/
theorem ofInt_add_toInt (sp : Word) (e : Byte) :
    BitVec.ofInt 16 ((sp.toNat : Int) + e.toInt) = sp + sext8 e := by
  rw [BitVec.ofInt_add, BitVec.ofInt_natCast, BitVec.ofNat_toNat, BitVec.setWidth_eq]
  rfl

/-- H and C of the SP offset forms, over natural numbers (R165, R228). -/
theorem spOffsetFlags_eq (sp : Word) (e : Byte) : spOffsetFlags sp e =
    ⟨false, false, decide (sp.toNat % 16 + e.toNat % 16 > 15),
      decide (sp.toNat % 256 + e.toNat > 255)⟩ := by
  have hnibble : (sp &&& 0xF).toNat = sp.toNat % 16 := Nat.and_two_pow_sub_one_eq_mod _ 4
  have hbyte : (sp &&& 0xFF).toNat = sp.toNat % 256 := Nat.and_two_pow_sub_one_eq_mod _ 8
  have hoffset : low4 e = e.toNat % 16 := Nat.and_two_pow_sub_one_eq_mod _ 4
  rw [spOffsetFlags, hnibble, hbyte, hoffset]

/-- Settles O18: the loads are their shapes by definition; the offset forms add the two integers
modulo 65536, and their calculator's masks are remainders. -/
theorem load16AndSpOffset : Obligations.Load16AndSpOffset := by
  refine ⟨fun p n s => ⟨encode_ld16 p n, cost_and_exec_of_shape _ (shapeOf_ld16 p n) s⟩,
    fun s => ⟨rfl, cost_and_exec_of_shape .ldSpHl rfl s⟩,
    fun x s => ⟨rfl, cost_and_exec_of_shape (.ldAbsSp x) rfl s⟩, fun e s => ?_⟩
  dsimp only
  rw [ofInt_add_toInt, ← spOffsetFlags_eq]
  exact ⟨⟨rfl, cost_and_exec_of_shape (.ldHlSp e) rfl s⟩,
    ⟨rfl, cost_and_exec_of_shape (.addSp e) rfl s⟩⟩

/-! ### Plain bytes (R64, R66) -/

theorem State.plainByte_iff {s : State} {x : Word} : s.plainByte x = true ↔
    romTop < x ∧ s.blocked x = false ∧ x ≠ s.platform.addrBootOff ∧ x ≠ s.platform.addrSc ∧
      x ≠ s.platform.addrDiv := by
  simp [State.plainByte, and_assoc]

theorem State.memWrite_of_plainByte {s : State} {x : Word} (h : s.plainByte x = true) (v : Byte) :
    s.memWrite x v = s.store x v := by
  obtain ⟨hrom, hblocked, hboot, hsc, hdiv⟩ := State.plainByte_iff.1 h
  exact State.memWrite_plain hrom hblocked hboot hsc hdiv v

theorem State.memRead_of_plainByte {s : State} {x : Word} (h : s.plainByte x = true) :
    s.memRead x = s.live x := by
  obtain ⟨hrom, hblocked, _⟩ := State.plainByte_iff.1 h
  have hcart : ¬ x ≤ romTop := BitVec.not_le.2 hrom
  have hboot : ¬ (x ≤ bootTop ∧ s.overlay = true) := fun ⟨hx, _⟩ =>
    hcart (BitVec.le_trans hx (by decide))
  rw [State.memRead_of_not_blocked hblocked, if_neg hboot, if_neg hcart]

/-! ### The stack helper (R160, R161) -/

/-- The two bytes of a push, by the addresses they are written at. -/
theorem State.push16_eq (s : State) (v : Word) : s.push16 v =
    (({ s with sp := s.sp - 2 }.takeMoves.memWrite (s.sp - 2) (loByte v)).takeMoves).memWrite
      (s.sp - 1) (hiByte v) := by
  have hnext : s.sp - 2 + 1 = s.sp - 1 := by bv_omega
  rw [← hnext]
  rfl

/-- The slot below `sp` is the top of the stack and holds `v`: SP is `sp - 2`, both bytes of the
slot are plain storage, and no move falls before they are read. -/
structure Pushed (sp v : Word) (t : State) : Prop where
  sp_eq : t.sp = sp - 2
  moves : t.moves = []
  plainLo : t.plainByte (sp - 2) = true
  plainHi : t.plainByte (sp - 1) = true
  liveLo : t.live (sp - 2) = loByte v
  liveHi : t.live (sp - 1) = hiByte v

/-- A pop takes the value off the stack and changes no more than SP. -/
theorem Pushed.pop16 {sp v : Word} {t : State} (h : Pushed sp v t) :
    t.pop16 = (v, { t with sp := sp }) := by
  have hnext : sp - 2 + 1 = sp - 1 := by bv_omega
  have hback : sp - 2 + 2 = sp := by bv_omega
  have hvalue : t.pop16.1 = v := by
    rw [State.pop16_fst, State.takeMoves_of_nil h.moves, State.takeMoves_of_nil h.moves, h.sp_eq,
      hnext, State.memRead_of_plainByte h.plainLo, State.memRead_of_plainByte h.plainHi, h.liveLo,
      h.liveHi, word_bytes]
  have hstate : t.pop16.2 = { t with sp := sp } := by
    rw [State.pop16_snd, State.takeMoves_of_nil h.moves, State.takeMoves_of_nil h.moves, h.sp_eq,
      hback]
  exact Prod.ext hvalue hstate

/-- PC is not part of the stack. -/
theorem Pushed.setPc {sp v : Word} {t : State} (h : Pushed sp v t) (x : Word) :
    Pushed sp v { t with pc := x } :=
  ⟨h.sp_eq, h.moves, h.plainLo, h.plainHi, h.liveLo, h.liveHi⟩

theorem Pushed.ret {sp v : Word} {t : State} (h : Pushed sp v t) :
    ret t = { t with sp := sp, pc := v } := by
  rw [Machine.ret, h.pop16]

theorem Pushed.reti {sp v : Word} {t : State} (h : Pushed sp v t) :
    reti t = { t with sp := sp, pc := v, ime := true, imePending := false } := by
  rw [Machine.reti, State.returnFromInterrupt, h.pop16]

section PlainStack

variable {s : State} (hwf : s.mem.wf = true) (hmoves : s.moves = [])
  (hlo : s.plainByte (s.sp - 2) = true) (hhi : s.plainByte (s.sp - 1) = true)

section
include hmoves hlo hhi

theorem State.push16_of_plain (v : Word) : s.push16 v =
    ({ s with sp := s.sp - 2 }.store (s.sp - 2) (loByte v)).store (s.sp - 1) (hiByte v) := by
  let t : State := { s with sp := s.sp - 2 }
  have hfirst : t.memWrite (s.sp - 2) (loByte v) = t.store (s.sp - 2) (loByte v) :=
    State.memWrite_of_plainByte (s := t) hlo _
  rw [State.push16_eq, State.takeMoves_of_nil (s := t) hmoves, hfirst,
    State.takeMoves_of_nil (s := t.store _ _) hmoves]
  exact State.memWrite_of_plainByte (s := t.store _ _) hhi _

theorem State.push16_frame (v : Word) :
    s.push16 v = { s with sp := s.sp - 2, mem := (s.push16 v).mem } := by
  rw [State.push16_of_plain hmoves hlo hhi]
  rfl

theorem State.takeInterrupt_frame (n : Source) : s.takeInterrupt n = { s with
    sp := s.sp - 2, pc := s.platform.vector n, mem := (s.takeInterrupt n).mem
    ime := false, imePending := false } := by
  have hpush := State.push16_frame (s := { s with ime := false, imePending := false })
    hmoves hlo hhi s.pc
  rw [State.takeInterrupt, hpush]
  rfl

end

include hwf hmoves hlo hhi

/-- A push puts its value on the stack. -/
theorem State.pushed_push16 (v : Word) : Pushed s.sp v (s.push16 v) := by
  have hne : s.sp - 2 ≠ s.sp - 1 := by bv_omega
  let t : State := { s with sp := s.sp - 2 }
  have hwf' : (t.store (s.sp - 2) (loByte v)).mem.wf = true := State.store_mem_wf (s := t) hwf _ _
  rw [State.push16_of_plain hmoves hlo hhi]
  refine ⟨rfl, hmoves, hlo, hhi, ?_, State.store_live_same hwf' _ _⟩
  rw [State.store_live_other _ _ hne]
  exact State.store_live_same (s := t) hwf _ _

/-- A dispatch puts PC on the stack, if IF is not one of the two bytes (R307). -/
theorem State.pushed_takeInterrupt (hifLo : s.sp - 2 ≠ s.platform.addrIf)
    (hifHi : s.sp - 1 ≠ s.platform.addrIf) (n : Source) :
    Pushed s.sp s.pc (s.takeInterrupt n) := by
  let r : State := { s with ime := false, imePending := false }
  have h : Pushed s.sp s.pc (r.push16 s.pc) := State.pushed_push16 (s := r) hwf hmoves hlo hhi s.pc
  refine Pushed.setPc (t := State.store _ _ _)
    ⟨h.sp_eq, h.moves, h.plainLo, h.plainHi, ?_, ?_⟩ (s.platform.vector n)
  · exact (State.store_live_other _ _ hifLo).trans h.liveLo
  · exact (State.store_live_other _ _ hifHi).trans h.liveHi

/-- A pop after a push gives the value back and changes no more than memory. -/
theorem State.push16_pop16 (v : Word) :
    (s.push16 v).pop16 = (v, { s with mem := (s.push16 v).mem }) := by
  rw [(State.pushed_push16 hwf hmoves hlo hhi v).pop16, State.push16_frame hmoves hlo hhi]

/-- POP after PUSH writes the pushed value to its own pair. -/
theorem pop_push (p q : StackPair) :
    pop q (push p s) = { s with mem := (push p s).mem }.setStack16 q (s.stack16 p) := by
  rw [pop, push, State.push16_pop16 hwf hmoves hlo hhi]

/-- A return after PC was pushed, wherever control went, changes no more than memory. -/
theorem ret_push16 (x : Word) :
    ret { s.push16 s.pc with pc := x } = { s with mem := (s.push16 s.pc).mem } := by
  rw [((State.pushed_push16 hwf hmoves hlo hhi s.pc).setPc x).ret,
    State.push16_frame hmoves hlo hhi]

theorem reti_takeInterrupt (hifLo : s.sp - 2 ≠ s.platform.addrIf)
    (hifHi : s.sp - 1 ≠ s.platform.addrIf) (n : Source) : reti (s.takeInterrupt n) =
      { s with mem := (s.takeInterrupt n).mem, ime := true, imePending := false } := by
  rw [(State.pushed_takeInterrupt hwf hmoves hlo hhi hifLo hifHi n).reti,
    State.takeInterrupt_frame hmoves hlo hhi]

end PlainStack

/-- Settles O19: a push and a pop are two byte accesses each, and on plain bytes a pop undoes the
push. -/
theorem stackHelper : Obligations.StackHelper := by
  refine ⟨State.push16_eq, fun s => ⟨rfl, word_toNat _ _⟩, fun s v hwf hmoves hlo hhi => ?_⟩
  rw [State.push16_pop16 hwf hmoves hlo hhi]
  exact ⟨rfl, rfl⟩

/-! ### PUSH and POP (R166 to R169) -/

theorem shapeOf_push (p : StackPair) : shapeOf (.push p) = .push p := by
  cases p <;> rfl

theorem shapeOf_pop (p : StackPair) : shapeOf (.pop p) = .pop p := by
  cases p <;> rfl

theorem exec_push (p : StackPair) (s : State) : exec (.push p) s = .next (push p s) :=
  (cost_and_exec_of_shape _ (shapeOf_push p) s).2

theorem exec_pop (p : StackPair) (s : State) : exec (.pop p) s = .next (pop p s) :=
  (cost_and_exec_of_shape _ (shapeOf_pop p) s).2

/-- Masking a byte with 0xF0 keeps its four flags over a low nibble of 0 (R22, R169). -/
theorem and_F0_eq_packFlags (b : Byte) : b &&& 0xF0 = packFlags (flagsOf b) 0x00 := by
  have hbits : ∀ i, i < 8 → (b &&& 0xF0).getLsbD i = (packFlags (flagsOf b) 0x00).getLsbD i := by
    intro i hi
    rw [packFlags_getLsbD, BitVec.getLsbD_and]
    interval_cases i <;> simp [flagsOf, flagZ, flagN, flagH, flagC]
  exact BitVec.eq_of_getLsbD_eq hbits

/-- The flags in the low byte of a word are bits 7 to 4 of the word. -/
theorem flagsOf_loByte (v : Word) :
    flagsOf (loByte v) = ⟨v.getLsbD 7, v.getLsbD 6, v.getLsbD 5, v.getLsbD 4⟩ := by
  simp [flagsOf, flagZ, flagN, flagH, flagC, loByte]

/-- POP AF takes the flags from the popped word (R169). -/
theorem setStack16_af (s : State) (v : Word) : s.setStack16 .af v = { s with
    a := hiByte v
    f := packFlags ⟨v.getLsbD 7, v.getLsbD 6, v.getLsbD 5, v.getLsbD 4⟩ 0x00 } := by
  rw [← flagsOf_loByte, ← and_F0_eq_packFlags]
  rfl

/-- Settles O20: PUSH is the helper on the pair's value, POP the helper and then the write of the
pair, which for AF masks F. -/
theorem pushAndPop : Obligations.PushAndPop := by
  refine ⟨fun p s => ?_, fun s => ⟨fun p => ?_, rfl, rfl, rfl, ?_⟩⟩
  · obtain ⟨hcost, hexec⟩ := cost_and_exec_of_shape _ (shapeOf_push p) s
    refine ⟨encode_push p, hcost, hexec.trans ?_⟩
    cases p <;> rfl
  · exact ⟨encode_pop p, (cost_and_exec_of_shape _ (shapeOf_pop p) s).1⟩
  · exact (exec_pop .af s).trans (congrArg _ (setStack16_af _ _))

/-! ### Round trips over the stack (R268, R270, R309) -/

theorem word_and_FFF0 (lo hi : Byte) : word lo hi &&& 0xFFF0 = word (lo &&& 0xF0) hi := by
  have hmask : (0xFFF0 : Word) = BitVec.allOnes 8 ++ (0xF0 : Byte) := rfl
  rw [hmask, word, BitVec.and_append, BitVec.and_allOnes]
  rfl

/-- With its low nibble 0 a byte is masked by 0xF0 to itself. -/
theorem and_F0_of_nibble {f : Byte} (h : f &&& 0x0F = 0) : f &&& 0xF0 = f := by
  have hmask : BitVec.allOnes 8 = (0xF0 : Byte) ||| 0x0F := rfl
  calc f &&& 0xF0 = f &&& 0xF0 ||| f &&& 0x0F := by rw [h]; exact BitVec.or_zero.symm
    _ = f := by rw [← BitVec.and_or_distrib_left, ← hmask, BitVec.and_allOnes]

/-- A pair reads back what POP wrote to it, AF with the low nibble of F masked (R168, R169). -/
theorem State.setStack16_stack16 (s : State) (q : StackPair) (v : Word) :
    (s.setStack16 q v).stack16 q = if q = .af then v &&& 0xFFF0 else v := by
  cases q with
  | bc | de | hl => exact word_bytes v
  | af =>
    have hmask := word_and_FFF0 (loByte v) (hiByte v)
    rw [word_bytes] at hmask
    exact hmask.symm

/-- Writing a pair's own value back changes nothing, if the low nibble of F is 0. -/
theorem State.setStack16_self {s : State} (h : s.f &&& 0x0F = 0) (q : StackPair) :
    s.setStack16 q (s.stack16 q) = s := by
  cases q with
  | bc | de | hl =>
    simp [State.setStack16, State.setHl, State.stack16, State.bc, State.de, State.hl]
  | af =>
    rw [State.setStack16, State.stack16, State.af, hiByte_word, loByte_word, and_F0_of_nibble h]

theorem shapeOf_rst (y : Fin 8) : shapeOf (.rst y) = .rst y := by
  fin_cases y <;> rfl

/-- Settles O39: whatever put the slot on the stack, what takes it off finds the value pushed and SP
as before, and nothing but memory has changed. -/
theorem stackRoundTrips : Obligations.StackRoundTrips := by
  intro s hwf hmoves hlo hhi
  refine ⟨fun p q => ?_, fun x => ?_, fun y => ?_, fun hifLo hifHi n => ?_⟩
  · refine ⟨push p s, _, exec_push p s, exec_pop q _, ?_⟩
    rw [pop_push hwf hmoves hlo hhi]
    refine ⟨State.setStack16_sp _ q _, State.setStack16_stack16 _ q _, ?_⟩
    rintro rfl hnibble
    exact State.setStack16_self (s := { s with mem := (push q s).mem }) hnibble q
  · exact ⟨call x s, rfl, congrArg _ (ret_push16 hwf hmoves hlo hhi x)⟩
  · exact ⟨rst y s, (cost_and_exec_of_shape (.rst y) (shapeOf_rst y) s).2,
      congrArg _ (ret_push16 hwf hmoves hlo hhi _)⟩
  · exact congrArg _ (reti_takeInterrupt hwf hmoves hlo hhi hifLo hifHi n)

end Sys2Proof.Machine
end

section
/-!
PROOFS. 8-bit arithmetic and logic (43_alu8.md R181 to R220): the calculator's functions over
natural numbers, the accumulator operations, INC and DEC, DAA with its decimal reading, CPL, SCF and CCF.
-/

namespace Sys2Proof.Machine

open Sys2Proof

/-! ### The calculator over natural numbers (R181 to R188) -/

theorem low4_eq_mod (x : Byte) : low4 x = x.toNat % 16 := Nat.and_two_pow_sub_one_eq_mod _ 4

theorem carryIn_eq_toNat (b : Bool) : carryIn b = b.toNat := by
  cases b <;> rfl

/-- A byte is 0 when its number is. -/
theorem beq_zero_eq_toNat (r : Byte) : (r == 0) = (r.toNat == 0) := by
  simp [BitVec.toNat_eq]

theorem ofNat_beq_zero (n : Nat) : (BitVec.ofNat 8 n == 0) = (n % 256 == 0) := by
  rw [beq_zero_eq_toNat, BitVec.toNat_ofNat]

/-- Modulo 256 a number is the byte it gives. -/
theorem ofNat_mod_256 (n : Nat) : BitVec.ofNat 8 (n % 256) = BitVec.ofNat 8 n :=
  BitVec.eq_of_toNat_eq (by simp)

/-- An integer modulo 256 is the natural number it becomes when a multiple of 256 is added (R8). -/
theorem ofInt_eq_ofNat {i : Int} {n k : Nat} (h : (n : Int) = i + 256 * k) :
    BitVec.ofInt 8 i = BitVec.ofNat 8 n := by
  apply BitVec.eq_of_toNat_eq
  simp only [BitVec.toNat_ofInt, BitVec.toNat_ofNat]
  omega

theorem sub8_r (x y : Byte) : (sub8 x y).r = BitVec.ofNat 8 (x.toNat + 256 - y.toNat) :=
  ofInt_eq_ofNat (k := 1) (by omega)

theorem sbc8_r (x y : Byte) (cin : Bool) :
    (sbc8 x y cin).r = BitVec.ofNat 8 (x.toNat + 512 - y.toNat - cin.toNat) := by
  have hc : cin.toNat ≤ 1 := cin.toNat_le
  refine ofInt_eq_ofNat (k := 2) ?_
  rw [carryIn_eq_toNat]
  omega

/-- What the calculator gives for an accumulator operation is the rule's outcome, the flags a policy
forces included. -/
theorem aluCalc_eq_aluRule (op : AluOp) (x y : Byte) (cin : Bool) : aluCalc op x y cin =
    let o := aluRule op x.toNat y.toNat cin.toNat
    ⟨BitVec.ofNat 8 o.1, o.2⟩ := by
  cases op with
  | add =>
    simp only [aluCalc, add8, aluRule, ofNat_beq_zero, ofNat_mod_256, low4_eq_mod]
  | adc =>
    simp only [aluCalc, adc8, aluRule, ofNat_beq_zero, ofNat_mod_256, low4_eq_mod, carryIn_eq_toNat]
  | sub =>
    have hr := sub8_r x y
    simp only [aluCalc, sub8, aluRule, ofNat_mod_256, low4_eq_mod] at hr ⊢
    rw [hr, ofNat_beq_zero]
  | sbc =>
    have hr := sbc8_r x y cin
    simp only [aluCalc, sbc8, aluRule, ofNat_mod_256, low4_eq_mod, carryIn_eq_toNat] at hr ⊢
    rw [hr, ofNat_beq_zero]
  | cp =>
    have hr := sub8_r x y
    simp only [aluCalc, cp8, sub8, aluRule, low4_eq_mod, BitVec.ofNat_toNat,
      BitVec.setWidth_eq] at hr ⊢
    rw [hr, ofNat_beq_zero]
  | and =>
    have hr : (x &&& y).toNat = Nat.land x.toNat y.toNat := BitVec.toNat_and x y
    simp only [aluCalc, and8, aluRule, ← hr, beq_zero_eq_toNat, BitVec.ofNat_toNat,
      BitVec.setWidth_eq]
  | xor =>
    have hr : (x ^^^ y).toNat = Nat.xor x.toNat y.toNat := BitVec.toNat_xor x y
    simp only [aluCalc, xor8, aluRule, ← hr, beq_zero_eq_toNat, BitVec.ofNat_toNat,
      BitVec.setWidth_eq]
  | or =>
    have hr : (x ||| y).toNat = Nat.lor x.toNat y.toNat := BitVec.toNat_or x y
    simp only [aluCalc, or8, aluRule, ← hr, beq_zero_eq_toNat, BitVec.ofNat_toNat,
      BitVec.setWidth_eq]

/-- The rule's flags have the values the operation's policy forces. -/
theorem applyFlags_aluPolicy (op : AluOp) (x y cin : Nat) (f : Byte) :
    applyFlags (aluPolicy op) (aluRule op x y cin).2 f = packFlags (aluRule op x y cin).2 f := by
  cases op <;> rfl

theorem aluRule_lt (op : AluOp) (x y : Byte) (cin : Nat) :
    (aluRule op x.toNat y.toNat cin).1 < 256 := by
  cases op with
  | add | adc | sub | sbc => exact Nat.mod_lt _ (by decide)
  | and => exact Nat.and_lt_two_pow (n := 8) _ y.isLt
  | xor => exact Nat.xor_lt_two_pow (n := 8) x.isLt y.isLt
  | or => exact Nat.or_lt_two_pow (n := 8) x.isLt y.isLt
  | cp => exact x.isLt

/-- Settles O24: the calculator's result is the rule's number as a byte, and that number is below
256; its flags are the rule's. -/
theorem arithmeticFormulas : Obligations.ArithmeticFormulas := by
  intro op x y cin
  dsimp only
  rw [aluCalc_eq_aluRule]
  dsimp only
  rw [applyFlags_aluPolicy, BitVec.toNat_ofNat, Nat.mod_eq_of_lt (aluRule_lt op x y _)]

/-! ### The accumulator operations (R189 to R212) -/

/-- What a row costs is what its shape costs, and it ends where the shape's run does. -/
theorem cost_and_exec_of_run {i : Instr} {sh : Shape} {s t : State} (hi : shapeOf i = sh)
    (ht : sh.run s = t) : (∀ f, cost i f = sh.cost f) ∧ exec i s = .next t :=
  ht ▸ cost_and_exec_of_shape sh hi s

theorem aluA_eq_withAlu (op : AluOp) (y : Byte) (s : State) :
    aluA op y s = s.withAlu (aluRule op s.a.toNat y.toNat (flagC s.f).toNat) := by
  rw [aluA, aluCalc_eq_aluRule, State.withFlags, applyFlags_aluPolicy]
  rfl

/-- The moves before the read change neither A nor F. -/
theorem aluHl_eq_withAlu (op : AluOp) (s : State) : aluHl op s = s.takeMoves.withAlu
    (aluRule op s.a.toNat (s.takeMoves.memRead s.hl).toNat (flagC s.f).toNat) := by
  rw [← s.takeMoves_a, ← s.takeMoves_f]
  exact aluA_eq_withAlu op _ _

theorem shapeOf_alu8 (op : AluOp) (r : Reg8) : shapeOf (.alu8 op r) = .aluReg op r := by
  cases op <;> cases r <;> rfl

theorem shapeOf_aluHl (op : AluOp) : shapeOf (.aluHl op) = .aluHl op := by
  cases op <;> rfl

theorem shapeOf_aluImm (op : AluOp) (n : Byte) : shapeOf (.aluImm op n) = .aluImm op n := by
  cases op <;> rfl

/-- Settles O21: the shape is the accumulator operation on the register's byte. -/
theorem accumulatorOnRegister : Obligations.AccumulatorOnRegister := fun op r s =>
  ⟨encode_alu8 op r, cost_and_exec_of_run (shapeOf_alu8 op r) (aluA_eq_withAlu op (s.r8 r) s)⟩

/-- Settles O22: the shape is the accumulator operation on the byte read, after the moves. -/
theorem accumulatorOnMemory : Obligations.AccumulatorOnMemory := fun op s =>
  ⟨encode_aluHl op, cost_and_exec_of_run (shapeOf_aluHl op) (aluHl_eq_withAlu op s)⟩

/-- Settles O23: the shape is the accumulator operation on the immediate byte. -/
theorem accumulatorOnImmediate : Obligations.AccumulatorOnImmediate := fun op n s =>
  ⟨encode_aluImm op n, cost_and_exec_of_run (shapeOf_aluImm op n) (aluA_eq_withAlu op n s)⟩

/-! ### INC and DEC (R213 to R216) -/

theorem inc8_eq (x : Byte) : inc8 x = ⟨BitVec.ofNat 8 (x.toNat + 1),
    ⟨decide (x.toNat = 255), false, decide (x.toNat % 16 = 15), false⟩⟩ := by
  have hz : ((x.toNat + 1) % 256 == 0) = decide (x.toNat = 255) := by
    rw [Bool.eq_iff_iff, beq_iff_eq, decide_eq_true_eq]
    omega
  simp only [inc8, ofNat_beq_zero, hz, low4_eq_mod]

theorem dec8_eq (x : Byte) : dec8 x = ⟨BitVec.ofNat 8 (x.toNat + 255),
    ⟨decide (x.toNat = 1), true, decide (x.toNat % 16 = 0), false⟩⟩ := by
  have hr : BitVec.ofInt 8 ((x.toNat : Int) - 1) = BitVec.ofNat 8 (x.toNat + 255) :=
    ofInt_eq_ofNat (k := 1) (by omega)
  have hz : ((x.toNat + 255) % 256 == 0) = decide (x.toNat = 1) := by
    rw [Bool.eq_iff_iff, beq_iff_eq, decide_eq_true_eq]
    omega
  simp only [dec8, hr, ofNat_beq_zero, hz, low4_eq_mod]

theorem shapeOf_inc8 (r : Reg8) : shapeOf (.inc8 r) = .incReg r := by
  cases r <;> rfl

theorem shapeOf_dec8 (r : Reg8) : shapeOf (.dec8 r) = .decReg r := by
  cases r <;> rfl

theorem incReg_eq (r : Reg8) (s : State) : incReg r s =
    { s.setR8 r (BitVec.ofNat 8 ((s.r8 r).toNat + 1)) with
      f := packFlags ⟨decide ((s.r8 r).toNat = 255), false, decide ((s.r8 r).toNat % 16 = 15),
        flagC s.f⟩ s.f } := by
  rw [incReg, inc8_eq, State.withFlags, State.setR8_f]
  rfl

theorem decReg_eq (r : Reg8) (s : State) : decReg r s =
    { s.setR8 r (BitVec.ofNat 8 ((s.r8 r).toNat + 255)) with
      f := packFlags ⟨decide ((s.r8 r).toNat = 1), true, decide ((s.r8 r).toNat % 16 = 0),
        flagC s.f⟩ s.f } := by
  rw [decReg, dec8_eq, State.withFlags, State.setR8_f]
  rfl

theorem incHl_eq (s : State) : incHl s =
    let u := s.takeMoves
    let x := (u.memRead s.hl).toNat
    { u.takeMoves.memWrite s.hl (BitVec.ofNat 8 (x + 1)) with
      f := packFlags ⟨decide (x = 255), false, decide (x % 16 = 15), flagC s.f⟩ s.f } := by
  rw [incHl, inc8_eq, State.withFlags, State.busWrite_f, State.busRead_snd, State.takeMoves_f]
  rfl

theorem decHl_eq (s : State) : decHl s =
    let u := s.takeMoves
    let x := (u.memRead s.hl).toNat
    { u.takeMoves.memWrite s.hl (BitVec.ofNat 8 (x + 255)) with
      f := packFlags ⟨decide (x = 1), true, decide (x % 16 = 0), flagC s.f⟩ s.f } := by
  rw [decHl, dec8_eq, State.withFlags, State.busWrite_f, State.busRead_snd, State.takeMoves_f]
  rfl

/-- Settles O25: the shape sets the register to the calculator's result and then applies its flags
with C kept; setting a register leaves F alone. -/
theorem incrementDecrementRegister : Obligations.IncrementDecrementRegister := fun r s =>
  ⟨⟨encode_inc8 r, cost_and_exec_of_run (shapeOf_inc8 r) (incReg_eq r s)⟩,
    ⟨encode_dec8 r, cost_and_exec_of_run (shapeOf_dec8 r) (decReg_eq r s)⟩⟩

/-- Settles O26: the calculator's operand is the byte read; neither access changes F, so its flags
are applied to F as it was, whatever the write contract did with the byte. -/
theorem incrementDecrementMemory : Obligations.IncrementDecrementMemory := fun s =>
  ⟨⟨rfl, cost_and_exec_of_run (sh := .incHl) rfl (incHl_eq s)⟩,
    ⟨rfl, cost_and_exec_of_run (sh := .decHl) rfl (decHl_eq s)⟩⟩

/-! ### DAA (R217) -/

/-- The add path: the carry comes out exactly when the high nibble is adjusted. -/
theorem daaAdjust_add {a f : Byte} (hn : flagN f = false) : daaAdjust a f =
    ((if flagH f || decide (a.toNat % 16 > 9) then 6 else 0) +
      (if flagC f || decide (a.toNat > 153) then 96 else 0),
      flagC f || decide (a.toNat > 153)) := by
  simp only [daaAdjust, if_pos hn, low4_eq_mod, Prod.mk.injEq, true_and]
  cases flagC f <;> simp

/-- The subtract path adjusts by the flags alone and keeps C (D16). -/
theorem daaAdjust_sub {a f : Byte} (hn : flagN f = true) : daaAdjust a f =
    ((if flagH f then 6 else 0) + (if flagC f then 96 else 0), flagC f) := by
  simp only [daaAdjust, hn, Bool.true_eq_false, if_false]

/-- DAA over natural numbers: the amount is added on the one path and taken off on the other. -/
theorem daa8_eq_daaRule (a f : Byte) : daa8 a f =
    let o := daaRule a.toNat (flagN f) (flagH f) (flagC f)
    ⟨BitVec.ofNat 8 o.1, ⟨decide (o.1 = 0), flagN f, false, o.2⟩⟩ := by
  cases hn : flagN f with
  | false =>
    simp only [daa8, daaRule, daaAdjust_add hn, hn, if_true, Bool.false_eq_true, if_false,
      ← Nat.add_assoc, ofNat_beq_zero, ofNat_mod_256]
    rw [beq_eq_decide]
  | true =>
    have hr : BitVec.ofInt 8 ((a.toNat : Int) -
          ((if flagH f then 6 else 0) + (if flagC f then 96 else 0) : Nat)) =
        BitVec.ofNat 8
          (a.toNat + 256 - (if flagH f then 6 else 0) - (if flagC f then 96 else 0)) :=
      ofInt_eq_ofNat (k := 1) (by split_ifs <;> omega)
    simp only [daa8, daaRule, daaAdjust_sub hn, hn, if_true, Bool.true_eq_false, if_false, hr,
      ofNat_beq_zero, ofNat_mod_256]
    rw [beq_eq_decide]

theorem daa_eq (s : State) : daa s =
    let o := daaRule s.a.toNat (flagN s.f) (flagH s.f) (flagC s.f)
    { s with
      a := BitVec.ofNat 8 o.1
      f := packFlags ⟨decide (o.1 = 0), flagN s.f, false, o.2⟩ s.f } := by
  rw [daa, daa8_eq_daaRule]
  rfl

/-- Settles O27: the calculator's two paths are the rule's, and DAA applies its flags with N kept
and H cleared. -/
theorem decimalAdjust : Obligations.DecimalAdjust := fun s =>
  ⟨rfl, cost_and_exec_of_run (sh := .daa) rfl (daa_eq s)⟩

/-! ### CPL, SCF and CCF (R218 to R220) -/

theorem cpl_eq (s : State) : cpl s =
    { s with a := ~~~ s.a, f := packFlags ⟨flagZ s.f, true, true, flagC s.f⟩ s.f } := by
  have ha : s.a ^^^ 0xFF = ~~~ s.a := BitVec.xor_allOnes
  rw [cpl, ha]
  rfl

/-- Settles O29: the policies keep and force the flags as written, and complementing A is exclusive
or with 0xFF. -/
theorem complementAndCarry : Obligations.ComplementAndCarry := fun s =>
  ⟨⟨rfl, cost_and_exec_of_run (sh := .cpl) rfl (cpl_eq s)⟩,
    ⟨rfl, cost_and_exec_of_shape .scf rfl s⟩, ⟨rfl, cost_and_exec_of_shape .ccf rfl s⟩⟩

/-! ### DAA is decimal arithmetic (D16) -/

/-- Binary-coded decimal of a number below 100: the tens in the high nibble, the units in the
low. -/
def bcd (n : Nat) : Nat := 16 * (n / 10) + n % 10

theorem bcd_digits {n p q : Nat} (hn : n = 10 * p + q) (hq : q ≤ 9) : bcd n = 16 * p + q := by
  unfold bcd
  omega

/-- DAA after an addition: the low nibble is adjusted when the units carry, the high one when the
sum does. -/
theorem daaRule_add_digits {a b c d : Nat} (ha : a ≤ 9) (hb : b ≤ 9) (hc : c ≤ 9) (hd : d ≤ 9) :
    daaRule ((16 * a + b + (16 * c + d)) % 256) false
        (decide ((16 * a + b) % 16 + (16 * c + d) % 16 > 15))
        (decide (16 * a + b + (16 * c + d) > 255)) =
      (bcd ((10 * a + b + (10 * c + d)) % 100), decide (100 ≤ 10 * a + b + (10 * c + d))) := by
  have hunits : (decide ((16 * a + b) % 16 + (16 * c + d) % 16 > 15) ||
      decide ((16 * a + b + (16 * c + d)) % 256 % 16 > 9)) = decide (10 ≤ b + d) := by
    rw [← Bool.decide_or, decide_eq_decide]
    omega
  have hsum : (decide (16 * a + b + (16 * c + d) > 255) ||
      decide ((16 * a + b + (16 * c + d)) % 256 > 153)) =
        decide (100 ≤ 10 * a + b + (10 * c + d)) := by
    rw [← Bool.decide_or, decide_eq_decide]
    omega
  simp only [daaRule, hunits, hsum, Bool.false_eq_true, if_false, decide_eq_true_eq, Prod.mk.injEq,
    and_true]
  by_cases hu : 10 ≤ b + d <;> by_cases hs : 100 ≤ 10 * a + b + (10 * c + d)
  · rw [if_pos hu, if_pos hs, bcd_digits (p := a + c + 1 - 10) (q := b + d - 10)] <;> omega
  · rw [if_pos hu, if_neg hs, bcd_digits (p := a + c + 1) (q := b + d - 10)] <;> omega
  · rw [if_neg hu, if_pos hs, bcd_digits (p := a + c - 10) (q := b + d)] <;> omega
  · rw [if_neg hu, if_neg hs, bcd_digits (p := a + c) (q := b + d)] <;> omega

/-- DAA after a subtraction: the low nibble is adjusted when the units borrow, the high one when the
difference does. -/
theorem daaRule_sub_digits {a b c d : Nat} (ha : a ≤ 9) (hb : b ≤ 9) (hc : c ≤ 9) (hd : d ≤ 9) :
    daaRule ((16 * a + b + 256 - (16 * c + d)) % 256) true
        (decide ((16 * a + b) % 16 < (16 * c + d) % 16)) (decide (16 * c + d > 16 * a + b)) =
      (bcd ((10 * a + b + 100 - (10 * c + d)) % 100), decide (10 * a + b < 10 * c + d)) := by
  have hunits : (16 * a + b) % 16 < (16 * c + d) % 16 ↔ b < d := by omega
  have hdiff : 16 * c + d > 16 * a + b ↔ 10 * a + b < 10 * c + d := by omega
  simp only [daaRule, hunits, hdiff, if_true, decide_eq_true_eq, Prod.mk.injEq, and_true]
  by_cases hu : b < d <;> by_cases hs : 10 * a + b < 10 * c + d
  · rw [if_pos hu, if_pos hs, bcd_digits (p := a + 9 - c) (q := b + 10 - d)] <;> omega
  · rw [if_pos hu, if_neg hs, bcd_digits (p := a - 1 - c) (q := b + 10 - d)] <;> omega
  · rw [if_neg hu, if_pos hs, bcd_digits (p := a + 10 - c) (q := b - d)] <;> omega
  · rw [if_neg hu, if_neg hs, bcd_digits (p := a - c) (q := b - d)] <;> omega

theorem bcd_mod_hundred (n : Nat) : bcd (n % 100) = 16 * (n % 100 / 10) + n % 10 := by
  rw [bcd, Nat.mod_mod_of_dvd _ (by decide)]

/-- A number below 100 is its tens and its units. -/
theorem exists_digits {n : Nat} (h : n < 100) : ∃ p q, p ≤ 9 ∧ q ≤ 9 ∧ n = 10 * p + q :=
  ⟨n / 10, n % 10, by omega, by omega, by omega⟩

theorem daaRule_add_bcd {x y : Nat} (hx : x < 100) (hy : y < 100) (cin : Nat) :
    let o := aluRule .add (bcd x) (bcd y) cin
    daaRule o.1 o.2.n o.2.h o.2.c = (bcd ((x + y) % 100), decide (100 ≤ x + y)) := by
  obtain ⟨a, b, ha, hb, rfl⟩ := exists_digits hx
  obtain ⟨c, d, hc, hd, rfl⟩ := exists_digits hy
  rw [bcd_digits rfl hb, bcd_digits rfl hd]
  exact daaRule_add_digits ha hb hc hd

theorem daaRule_sub_bcd {x y : Nat} (hx : x < 100) (hy : y < 100) (cin : Nat) :
    let o := aluRule .sub (bcd x) (bcd y) cin
    daaRule o.1 o.2.n o.2.h o.2.c = (bcd ((x + 100 - y) % 100), decide (x < y)) := by
  obtain ⟨a, b, ha, hb, rfl⟩ := exists_digits hx
  obtain ⟨c, d, hc, hd, rfl⟩ := exists_digits hy
  rw [bcd_digits rfl hb, bcd_digits rfl hd]
  exact daaRule_sub_digits ha hb hc hd

theorem toNat_ofNat_bcd {n : Nat} (h : n < 100) : (BitVec.ofNat 8 (bcd n)).toNat = bcd n :=
  Nat.mod_eq_of_lt (by unfold bcd; omega)

/-- DAA after an accumulator operation finds its outcome in A and F. -/
theorem daaRule_withAlu (s : State) {o : Nat × Flags} (ho : o.1 < 256) :
    let t := s.withAlu o
    daaRule t.a.toNat (flagN t.f) (flagH t.f) (flagC t.f) = daaRule o.1 o.2.n o.2.h o.2.c := by
  have ha : (s.withAlu o).a.toNat = o.1 := Nat.mod_eq_of_lt ho
  have hf : flagsOf (s.withAlu o).f = o.2 := flagsOf_packFlags o.2 s.f
  dsimp only
  rw [ha, ← hf]
  rfl

/-- An operation on an immediate and then DAA: the adjustment is the rule's, of the number and the
flags the operation gives. -/
theorem exec_aluImm_exec_daa {op : AluOp} {n : Byte} {s : State} {r : Nat} {c : Bool}
    (h : let o := aluRule op s.a.toNat n.toNat (flagC s.f).toNat
      daaRule o.1 o.2.n o.2.h o.2.c = (r, c)) :
    ∃ t u, exec (.aluImm op n) s = .next t ∧ exec .daa t = .next u ∧
      u.a = BitVec.ofNat 8 r ∧ flagC u.f = c := by
  obtain ⟨-, -, halu⟩ := accumulatorOnImmediate op n s
  obtain ⟨-, -, hexec⟩ := decimalAdjust (s.withAlu _)
  have hdaa := (daaRule_withAlu s (aluRule_lt op s.a n (flagC s.f).toNat)).trans h
  rw [hdaa] at hexec
  exact ⟨_, _, halu, hexec, rfl, congrArg Flags.c (flagsOf_packFlags _ _)⟩

/-- Settles O28: A and the operand are read as decimal digits, and DAA's rule brings the binary sum
or difference back to digits. -/
theorem decimalAdjustIsBcd : Obligations.DecimalAdjustIsBcd := by
  intro x y s hx hy ha
  have hA : s.a.toNat = bcd x := ha ▸ toNat_ofNat_bcd hx
  have hN : (BitVec.ofNat 8 (bcd y)).toNat = bcd y := toNat_ofNat_bcd hy
  have hadd := daaRule_add_bcd hx hy (flagC s.f).toNat
  have hsub := daaRule_sub_bcd hx hy (flagC s.f).toNat
  rw [← hA, ← hN, bcd_mod_hundred] at hadd hsub
  exact ⟨exec_aluImm_exec_daa hadd, exec_aluImm_exec_daa hsub⟩

end Sys2Proof.Machine
end

section
/-!
PROOFS. 16-bit arithmetic (44_alu16.md R225 to R227): ADD HL,rr over natural numbers, INC rr and
DEC rr.
-/

namespace Sys2Proof.Machine

open Sys2Proof

/-! ### The sum of two words over natural numbers (R8, R225) -/

theorem loByte_add (x y : Word) : loByte (x + y) = BitVec.ofNat 8 (x.toNat + y.toNat) := by
  apply BitVec.eq_of_toNat_eq
  simp only [loByte, BitVec.extractLsb'_toNat, BitVec.toNat_add, BitVec.toNat_ofNat,
    Nat.shiftRight_zero]
  omega

theorem hiByte_add (x y : Word) : hiByte (x + y) = BitVec.ofNat 8 ((x.toNat + y.toNat) / 256) := by
  apply BitVec.eq_of_toNat_eq
  simp only [hiByte, BitVec.extractLsb'_toNat, BitVec.toNat_add, BitVec.toNat_ofNat,
    Nat.shiftRight_eq_div_pow]
  omega

/-- H and C of `ADD HL,rr`, over natural numbers: the mask of bits 11 to 0 is a remainder (R225). -/
theorem add16Flags_eq (x y : Word) : add16Flags x y =
    ⟨false, false, decide (x.toNat % 4096 + y.toNat % 4096 > 4095),
      decide (x.toNat + y.toNat > 65535)⟩ := by
  have hmask (v : Word) : (v &&& 0x0FFF).toNat = v.toNat % 4096 :=
    Nat.and_two_pow_sub_one_eq_mod _ 12
  rw [add16Flags, hmask, hmask]

/-! ### ADD HL,rr, INC rr and DEC rr (R225 to R227) -/

theorem shapeOf_addHl (p : Pair) : shapeOf (.addHl p) = .addHl p := by
  cases p <;> rfl

theorem shapeOf_inc16 (p : Pair) : shapeOf (.inc16 p) = .incPair p := by
  cases p <;> rfl

theorem shapeOf_dec16 (p : Pair) : shapeOf (.dec16 p) = .decPair p := by
  cases p <;> rfl

theorem addHl_eq (p : Pair) (s : State) : addHl p s =
    let x := s.hl.toNat
    let y := (s.r16 p).toNat
    { s with
      h := BitVec.ofNat 8 ((x + y) / 256)
      l := BitVec.ofNat 8 (x + y)
      f := packFlags ⟨flagZ s.f, false, decide (x % 4096 + y % 4096 > 4095),
        decide (x + y > 65535)⟩ s.f } := by
  rw [addHl, add16Flags_eq, State.setHl, hiByte_add, loByte_add]
  rfl

/-- Settles O30: ADD HL,rr sets HL to the two bytes of the sum and applies the carries with Z kept;
INC rr and DEC rr are by definition the write of the pair, which leaves F alone. -/
theorem pairArithmetic : Obligations.PairArithmetic := fun p s =>
  ⟨⟨encode_addHl p, cost_and_exec_of_run (shapeOf_addHl p) (addHl_eq p s)⟩,
    ⟨encode_inc16 p, cost_and_exec_of_shape _ (shapeOf_inc16 p) s⟩,
    ⟨encode_dec16 p, cost_and_exec_of_shape _ (shapeOf_dec16 p) s⟩⟩

end Sys2Proof.Machine
end

section
/-!
PROOFS. Rotates, shifts and bit operations (45_rotate_shift_bit.md R230 to R256): the eight
transforms and the changed byte bit by bit, and the forms on the accumulator, a register and the byte
at HL.
-/

namespace Sys2Proof.Machine

open Sys2Proof

/-! ### One bit of a byte (R253, R255) -/

theorem bitMask_getLsbD (b : Fin 8) (i : Nat) : (bitMask b).getLsbD i = decide (i = b.val) := by
  rw [bitMask, BitVec.getLsbD_ofNat, Nat.testBit_two_pow, ← Bool.decide_and]
  exact decide_eq_decide.mpr (by omega)

/-- RES clears the bit of the mask. -/
theorem and_not_bitMask_getLsbD (v : Byte) (b : Fin 8) (i : Nat) :
    (v &&& ~~~ bitMask b).getLsbD i = if i = b.val then false else v.getLsbD i := by
  rw [BitVec.getLsbD_and, BitVec.getLsbD_not, bitMask_getLsbD]
  split
  next h => simp [h]
  next h => simpa [h] using BitVec.lt_of_getLsbD

/-- SET sets the bit of the mask. -/
theorem or_bitMask_getLsbD (v : Byte) (b : Fin 8) (i : Nat) :
    (v ||| bitMask b).getLsbD i = if i = b.val then true else v.getLsbD i := by
  rw [BitVec.getLsbD_or, bitMask_getLsbD]
  split <;> next h => simp [h]

/-! ### The parts of the eight transforms, bit by bit (R230) -/

theorem shiftLeft_one_getLsbD (v : Byte) {i : Nat} (hi : i < 8) :
    (v <<< 1).getLsbD i = if i = 0 then false else v.getLsbD (i - 1) := by
  rw [BitVec.getLsbD_shiftLeft]
  split
  next h => simp [h]
  next h => simp only [hi, h, Nat.lt_one_iff, decide_true, decide_false, Bool.not_false,
      Bool.true_and]

theorem ushiftRight_one_getLsbD (v : Byte) (i : Nat) :
    (v >>> 1).getLsbD i = if i = 7 then false else v.getLsbD (i + 1) := by
  rw [BitVec.getLsbD_ushiftRight, Nat.add_comm]
  split
  next h => rw [h, BitVec.getLsbD_of_ge _ _ (by decide)]
  next => rfl

theorem shiftLeft_seven_getLsbD (v : Byte) {i : Nat} (hi : i < 8) :
    (v <<< 7).getLsbD i = if i = 7 then v.getLsbD 0 else false := by
  rw [BitVec.getLsbD_shiftLeft]
  split
  next h => simp [h]
  next h => simp [show i < 7 by omega]

theorem ushiftRight_seven_getLsbD (v : Byte) (i : Nat) :
    (v >>> 7).getLsbD i = if i = 0 then v.getLsbD 7 else false := by
  rw [BitVec.getLsbD_ushiftRight]
  split
  next h => rw [h]
  next h => exact BitVec.getLsbD_of_ge _ _ (by omega)

theorem carryIn_getLsbD (b : Bool) (i : Nat) :
    (BitVec.ofNat 8 (carryIn b)).getLsbD i = if i = 0 then b else false := by
  cases b <;> simp [carryIn]

theorem and_80_getLsbD (v : Byte) (i : Nat) :
    (v &&& 0x80).getLsbD i = if i = 7 then v.getLsbD 7 else false := by
  rw [show (0x80 : Byte) = bitMask 7 from rfl, BitVec.getLsbD_and, bitMask_getLsbD]
  split <;> next h => simp [h]

/-- Moved by one place, v takes in one bit at the end left free: the bit shifted out, the carry, 0 or
the sign. SWAP is v moved by four places both ways. -/
theorem rotResult_getLsbD (op : RotOp) (v : Byte) (cin : Bool) {i : Nat} (hi : i < 8) :
    (rotResult op v cin).getLsbD i = rotRuleBit op v cin i := by
  cases op with
  | rlc | rrc | rl | rr | sra =>
    simp only [rotResult, rotRuleBit, BitVec.getLsbD_or, shiftLeft_one_getLsbD v hi,
      ushiftRight_one_getLsbD, shiftLeft_seven_getLsbD _ hi, ushiftRight_seven_getLsbD,
      carryIn_getLsbD, and_80_getLsbD]
    split <;> simp
  | sla => exact shiftLeft_one_getLsbD v hi
  | swap =>
    simp only [rotResult, rotRuleBit, BitVec.getLsbD_or, BitVec.getLsbD_shiftLeft,
      BitVec.getLsbD_ushiftRight, Nat.add_comm 4 i]
    split
    next h => simp [h]
    next h => simp [h, hi, BitVec.getLsbD_of_ge v (i + 4) (by omega)]
  | srl => exact ushiftRight_one_getLsbD v i

/-- Settles O31: the result bit by bit for each transform; the carry out is the rule's by
definition. -/
theorem rotateAndShiftBits : Obligations.RotateAndShiftBits := fun op v cin =>
  ⟨fun _ hi => rotResult_getLsbD op v cin hi, by cases op <;> rfl⟩

/-! ### BIT, RES and SET (R251 to R256) -/

theorem shapeOf_bit8 (b : Fin 8) (r : Reg8) : shapeOf (.bit8 b r) = .bitReg b r := by
  fin_cases b <;> cases r <;> rfl

theorem shapeOf_res8 (b : Fin 8) (r : Reg8) : shapeOf (.res8 b r) = .resReg b r := by
  fin_cases b <;> cases r <;> rfl

theorem shapeOf_set8 (b : Fin 8) (r : Reg8) : shapeOf (.set8 b r) = .setReg b r := by
  fin_cases b <;> cases r <;> rfl

theorem shapeOf_bitHl (b : Fin 8) : shapeOf (.bitHl b) = .bitHl b := by
  fin_cases b <;> rfl

theorem shapeOf_resHl (b : Fin 8) : shapeOf (.resHl b) = .resHl b := by
  fin_cases b <;> rfl

theorem shapeOf_setHl (b : Fin 8) : shapeOf (.setHl b) = .setHlBit b := by
  fin_cases b <;> rfl

theorem bitHl_eq (b : Fin 8) (s : State) : bitHl b s =
    let u := s.takeMoves
    { u with
      f := packFlags ⟨!(u.memRead s.hl).getLsbD b.val, false, true, flagC s.f⟩ s.f } := by
  rw [bitHl, State.withFlags, State.busRead_snd, State.takeMoves_f]
  rfl

/-- Settles O34: BIT applies its flags with C kept; RES and SET write the register with the bit of
the mask cleared or set. -/
theorem bitOfRegister : Obligations.BitOfRegister := fun b r s =>
  ⟨⟨encode_bit8 b r, cost_and_exec_of_shape _ (shapeOf_bit8 b r) s⟩,
    ⟨encode_res8 b r, (cost_and_exec_of_shape _ (shapeOf_res8 b r) s).imp_right
      fun hexec => ⟨_, hexec, and_not_bitMask_getLsbD (s.r8 r) b⟩⟩,
    ⟨encode_set8 b r, (cost_and_exec_of_shape _ (shapeOf_set8 b r) s).imp_right
      fun hexec => ⟨_, hexec, or_bitMask_getLsbD (s.r8 r) b⟩⟩⟩

/-- Settles O35: the byte tested or changed is the one read, after the moves before the read; RES
and SET write it back through the write contract, after the moves before the write. -/
theorem bitOfMemory : Obligations.BitOfMemory := fun b s =>
  ⟨⟨encode_bitHl b, cost_and_exec_of_run (shapeOf_bitHl b) (bitHl_eq b s)⟩,
    ⟨encode_resHl b, (cost_and_exec_of_shape _ (shapeOf_resHl b) s).imp_right
      fun hexec => ⟨_, hexec, and_not_bitMask_getLsbD (s.takeMoves.memRead s.hl) b⟩⟩,
    ⟨encode_setHl b, (cost_and_exec_of_shape _ (shapeOf_setHl b) s).imp_right
      fun hexec => ⟨_, hexec, or_bitMask_getLsbD (s.takeMoves.memRead s.hl) b⟩⟩⟩

/-! ### The rotates and shifts (R231 to R250) -/

/-- The policy of a prefixed transform forces no flag to another value than the computed one: SWAP's
carry is 0 already. -/
theorem applyFlags_rotPolicy (op : RotOp) (v : Byte) (cin : Bool) (f : Byte) :
    applyFlags (rotPolicy op) (rotCalc op v cin).flags f = packFlags (rotCalc op v cin).flags f := by
  cases op <;> rfl

theorem rotReg_eq (op : RotOp) (r : Reg8) (s : State) : rotReg op r s =
    let v := rotResult op (s.r8 r) (flagC s.f)
    { s.setR8 r v with
      f := packFlags ⟨v == 0, false, false, rotCarry op (s.r8 r)⟩ s.f } := by
  rw [rotReg, State.withFlags, applyFlags_rotPolicy, State.setR8_f]
  rfl

theorem rotHl_eq (op : RotOp) (s : State) : rotHl op s =
    let u := s.takeMoves
    let v := rotResult op (u.memRead s.hl) (flagC s.f)
    { u.takeMoves.memWrite s.hl v with
      f := packFlags ⟨v == 0, false, false, rotCarry op (u.memRead s.hl)⟩ s.f } := by
  rw [rotHl, State.withFlags, applyFlags_rotPolicy, State.busWrite_f, State.busRead_snd,
    State.takeMoves_f]
  rfl

theorem shapeOf_rot8 (op : RotOp) (r : Reg8) : shapeOf (.rot8 op r) = .rotReg op r := by
  cases op <;> cases r <;> rfl

theorem shapeOf_rotHl (op : RotOp) : shapeOf (.rotHl op) = .rotHl op := by
  cases op <;> rfl

/-- Settles O32: the accumulator forms force Z to 0, the prefixed forms keep the computed flags;
setting the register leaves F alone. -/
theorem rotateAccumulatorAndRegister : Obligations.RotateAccumulatorAndRegister :=
  ⟨fun s => ⟨⟨rfl, cost_and_exec_of_shape (.rotA .rlc) rfl s⟩,
      ⟨rfl, cost_and_exec_of_shape (.rotA .rrc) rfl s⟩,
      ⟨rfl, cost_and_exec_of_shape (.rotA .rl) rfl s⟩,
      ⟨rfl, cost_and_exec_of_shape (.rotA .rr) rfl s⟩⟩,
    fun op r s => ⟨encode_rot8 op r, cost_and_exec_of_run (shapeOf_rot8 op r) (rotReg_eq op r s)⟩⟩

/-- Settles O33: the transform is of the byte read; neither access changes F, so the flags are
applied to F as it was, whatever the write contract did with the byte. -/
theorem rotateMemory : Obligations.RotateMemory := fun op s =>
  ⟨encode_rotHl op, cost_and_exec_of_run (shapeOf_rotHl op) (rotHl_eq op s)⟩

end Sys2Proof.Machine
end

section
/-!
PROOFS. Control transfer (46_control.md R266 to R271): calls, restarts and returns.
-/

namespace Sys2Proof.Machine

open Sys2Proof

/-! ### Calls and restarts (R266, R267, R271) -/

theorem shapeOf_callCond (cc : Cond) (x : Word) : shapeOf (.callCond cc x) = .callCond cc x := by
  cases cc <;> rfl

theorem callCond_of_holds {cc : Cond} {s : State} (x : Word) (h : condHolds cc s.f = true) :
    callCond cc x s = call x s := if_pos h

theorem callCond_of_not_holds {cc : Cond} {s : State} (x : Word) (h : condHolds cc s.f = false) :
    callCond cc x s = s := if_neg (Bool.eq_false_iff.mp h)

/-- Settles O37: a call and a restart push PC by definition; a conditional call is the call when its
condition holds and the identity when it does not. -/
theorem callsAndRestarts : Obligations.CallsAndRestarts := by
  refine ⟨fun x s => ⟨rfl, cost_and_exec_of_shape (.call x) rfl s⟩, fun cc x s => ?_,
    fun y s => ⟨encode_rst y, cost_and_exec_of_shape _ (shapeOf_rst y) s⟩⟩
  obtain ⟨hcost, hexec⟩ := cost_and_exec_of_shape _ (shapeOf_callCond cc x) s
  exact ⟨encode_callCond cc x, hcost,
    fun h => hexec.trans (congrArg _ (callCond_of_holds x h)),
    fun h => hexec.trans (congrArg _ (callCond_of_not_holds x h))⟩

/-! ### Returns (R268 to R270) -/

theorem shapeOf_retCond (cc : Cond) : shapeOf (.retCond cc) = .retCond cc := by
  cases cc <;> rfl

theorem retCond_of_holds {cc : Cond} {s : State} (h : condHolds cc s.f = true) :
    retCond cc s = ret s := if_pos h

theorem retCond_of_not_holds {cc : Cond} {s : State} (h : condHolds cc s.f = false) :
    retCond cc s = s := if_neg (Bool.eq_false_iff.mp h)

/-- Settles O38: RET and RETI pop PC by definition, RETI with IME set and the pending enable cleared;
RET cc is RET when its condition holds and the identity when it does not. -/
theorem returns : Obligations.Returns := by
  refine ⟨fun s => ⟨rfl, cost_and_exec_of_shape .ret rfl s⟩, fun cc s => ?_,
    fun s => ⟨rfl, cost_and_exec_of_shape .reti rfl s⟩⟩
  obtain ⟨hcost, hexec⟩ := cost_and_exec_of_shape _ (shapeOf_retCond cc) s
  exact ⟨encode_retCond cc, hcost,
    fun h => hexec.trans (congrArg _ (retCond_of_holds h)),
    fun h => hexec.trans (congrArg _ (retCond_of_not_holds h))⟩

end Sys2Proof.Machine
end

section
/-!
PROOFS. System instructions (47_system.md R280 to R286): the rows that change a control cell alone,
the unmapped bytes, and the marker 0xCB.
-/

namespace Sys2Proof.Machine

open Sys2Proof

/-! ### NOP, HALT, STOP, DI, EI and the unmapped bytes (R280 to R284, R286) -/

theorem cost_unmapped (u : Unmapped) (f : Byte) : cost (.unmapped u) f = 1 := by
  cases u <;> rfl

/-- Settles O40: each row has a shape of its own, which is the update the statement names; an
unmapped byte is its row's code, reported. -/
theorem systemInstructions : Obligations.SystemInstructions := fun s =>
  ⟨⟨rfl, cost_and_exec_of_shape .nop rfl s⟩, ⟨rfl, cost_and_exec_of_shape .halt rfl s⟩,
    fun n => ⟨rfl, cost_and_exec_of_shape (.stop n) rfl s⟩,
    ⟨rfl, cost_and_exec_of_shape .di rfl s⟩, ⟨rfl, cost_and_exec_of_shape .ei rfl s⟩,
    fun u => ⟨encode_unmapped u, cost_unmapped u, exec_unmapped u s⟩⟩

/-! ### The marker (R113, R285) -/

/-- The decoder gives no row that is not an instruction. -/
theorem wellFormed_of_decode {bytes rest : List Byte} {i : Instr} (h : decode bytes = .ok i rest) :
    i.WellFormed :=
  (encodeUndoesDecode bytes i rest h).1

/-- Settles O41: the marker is not well formed, so the decoder never gives it; it fetches its second
byte with `Imm8` and has the meaning of the prefixed row that byte selects. -/
theorem markerRunsPrefixedRow : Obligations.MarkerRunsPrefixedRow := by
  have hmarker : ¬ Instr.WellFormed .prefix_cb := nofun
  exact ⟨hmarker, fun _ _ h => hmarker (wellFormed_of_decode h), fun _ => rfl,
    fun s => ⟨exec_marker s, _, exec_eq_shape .prefix_cb s⟩⟩

end Sys2Proof.Machine
end

section
/-!
PROOFS. Interrupts and power states (60_exceptions.md R301 to R331): the collaborators' moves and the
requests, which source a boundary dispatches, the dispatch itself, and HALT.
-/

namespace Sys2Proof.Machine

open Sys2Proof

/-! ### Moves and requests (R301, R303, R322 to R325) -/

/-- A request ORs the mask of its source into IF and leaves the other cells and bytes alone. -/
theorem State.requestInterrupt_eq (s : State) (n : Source) (v : Byte) (hv : n.mask = v) :
    let flags := s.platform.addrIf.toNat
    s.requestInterrupt n = { s with mem := s.mem.write flags (s.mem.read flags ||| v) } := by
  subst hv
  rfl

/-- Settles O13: a move is the update of its flag or of LY by definition, and a request is its
source's mask, a closed byte, ORed into IF. -/
theorem collaboratorMoves : Obligations.CollaboratorMoves := fun s _ _ =>
  ⟨rfl, rfl, rfl, s.requestInterrupt_eq .vblank 0x01 rfl, s.requestInterrupt_eq .lcd 0x02 rfl,
    s.requestInterrupt_eq .joypad 0x10 rfl, s.requestInterrupt_eq .timer 0x04 rfl,
    s.requestInterrupt_eq .serial 0x08 rfl⟩

/-! ### The lowest-numbered source of a set (R301, R314) -/

theorem Source.eq_of_number_eq : ∀ {m n : Source}, m.number = n.number → m = n := by
  intro m n
  cases m <;> cases n <;> decide

/-- What the answer of `lowestSource` says about the set: the source's bit is 1 and no lower one is,
or no source's bit is 1. -/
def IsLowest (p : Byte) : Option Source → Prop
  | some n => p.getLsbD n.number = true ∧
      ∀ m : Source, m.number < n.number → ¬ p.getLsbD m.number = true
  | none => ∀ m : Source, ¬ p.getLsbD m.number = true

theorem isLowest_lowestSource (p : Byte) : IsLowest p (lowestSource p) := by
  unfold lowestSource
  split_ifs
  case neg =>
    intro m
    cases m <;> assumption
  all_goals
    refine ⟨by assumption, fun m hm => ?_⟩
    cases m <;> simp_all [Source.number]

/-- A set has one lowest source, or none: of two, neither can be the lower. -/
theorem IsLowest.unique {p : Byte} {o o' : Option Source} (h : IsLowest p o) (h' : IsLowest p o') :
    o = o' := by
  match o, o', h, h' with
  | none, none, _, _ => rfl
  | none, some n, h, h' => exact absurd h'.1 (h n)
  | some n, none, h, h' => exact absurd h.1 (h' n)
  | some n, some m, ⟨hn, hlow⟩, ⟨hm, hlow'⟩ =>
    have hle : n.number ≤ m.number := not_lt.1 fun hlt => hlow m hlt hm
    have hge : m.number ≤ n.number := not_lt.1 fun hlt => hlow' n hlt hn
    exact congrArg some (Source.eq_of_number_eq (hle.antisymm hge))

theorem lowestSource_eq_iff {p : Byte} {o : Option Source} :
    lowestSource p = o ↔ IsLowest p o :=
  ⟨fun h => h ▸ isLowest_lowestSource p, (isLowest_lowestSource p).unique⟩

/-! ### What is pending and what is dispatched (R304, R305) -/

/-- A source is in the pending set when it is requested and enabled (R304). -/
theorem State.pending_getLsbD (s : State) (n : Source) : s.pending.getLsbD n.number = true ↔
    (s.live s.platform.addrIf).getLsbD n.number = true ∧
      (s.live s.platform.addrIe).getLsbD n.number = true := by
  have hused : usedInterrupts.getLsbD n.number = true := by cases n <;> rfl
  rw [State.pending, BitVec.getLsbD_and, hused, Bool.and_true, BitVec.getLsbD_and, Bool.and_eq_true]

/-- The pending set is empty when it has no source: the bits above the five are masked out (R304). -/
theorem State.pending_eq_zero_iff (s : State) :
    s.pending = 0 ↔ ∀ n : Source, ¬ s.pending.getLsbD n.number = true := by
  refine ⟨fun h n => ?_, fun h => BitVec.eq_of_getLsbD_eq fun i hi => ?_⟩
  · rw [h]
    exact ne_true_of_eq_false BitVec.getLsbD_zero
  · refine Eq.trans ?_ BitVec.getLsbD_zero.symm
    interval_cases i
    · exact Bool.eq_false_of_not_eq_true (h .vblank)
    · exact Bool.eq_false_of_not_eq_true (h .lcd)
    · exact Bool.eq_false_of_not_eq_true (h .timer)
    · exact Bool.eq_false_of_not_eq_true (h .serial)
    · exact Bool.eq_false_of_not_eq_true (h .joypad)
    all_goals
      rw [State.pending, BitVec.getLsbD_and]
      exact Bool.and_false _

theorem State.toDispatch_eq_some_iff {s : State} {n : Source} :
    s.toDispatch = some n ↔ s.ime = true ∧ IsLowest s.pending (some n) := by
  rw [← lowestSource_eq_iff, State.toDispatch]
  cases s.ime <;> simp

theorem State.toDispatch_eq_none_iff {s : State} :
    s.toDispatch = none ↔ s.ime = false ∨ IsLowest s.pending none := by
  rw [← lowestSource_eq_iff, State.toDispatch]
  cases s.ime <;> simp

theorem step_of_run {s : State} (hmode : s.mode = .run) : step s = runBoundary s.takeMoves := by
  rw [step, driverStep, hmode]

/-- In MODE RUN a boundary that dispatches does so and accounts DISPATCH_CYCLES (R305, R307). -/
theorem step_of_toDispatch_some {s : State} {n : Source} (hmode : s.mode = .run)
    (hd : s.takeMoves.toDispatch = some n) :
    step s = .next (account s.platform.dispatchCycles (s.takeMoves.takeInterrupt n)) := by
  rw [step_of_run hmode, runBoundary, hd, State.takeMoves_platform]

/-- Settles O44: the boundary asks for the lowest source of the pending set, whose bits are those of
IF and IE together. -/
theorem whatIsDispatched : Obligations.WhatIsDispatched := by
  refine ⟨rfl, fun s n => ⟨?_, ?_⟩, fun s n => step_of_toDispatch_some⟩
  · simp only [State.toDispatch_eq_some_iff, IsLowest, State.pending_getLsbD, and_assoc]
  · simp only [State.toDispatch_eq_none_iff, IsLowest, State.pending_getLsbD]

/-! ### HALT (R330, R331) -/

/-- An empty batch in front of the schedule is taken off it and does nothing else. -/
theorem State.takeMoves_of_empty_batch (s : State) :
    State.takeMoves { s with moves := [] :: s.moves } = s := rfl

theorem step_of_halt {s : State} (hmode : s.mode = .halt) : step s =
    if s.takeMoves.pending = 0 then .next (account idleCycles s.takeMoves)
    else runBoundary { s.takeMoves with mode := .run } := by
  rw [step, driverStep, hmode]

/-- Settles O47: HALT asks whether the pending set is empty; waking is the boundary of RUN, whose
moves are made already. -/
theorem haltIdlesAndWakes : Obligations.HaltIdlesAndWakes := by
  intro s hmode u flags enables
  have hpending : u.pending = 0 ↔ ∀ n : Source,
      ¬ (flags.getLsbD n.number = true ∧ enables.getLsbD n.number = true) := by
    simp only [State.pending_eq_zero_iff, State.pending_getLsbD, flags, enables]
  constructor
  · intro hidle
    rw [step_of_halt hmode, if_pos (hpending.2 hidle)]
    rfl
  · rintro ⟨n, hn⟩
    have hwake : u.pending ≠ 0 := fun h => hpending.1 h n hn
    rw [step_of_halt hmode, if_neg hwake, step_of_run rfl]
    exact congrArg runBoundary (State.takeMoves_of_empty_batch { u with mode := .run }).symm

/-! ### Nothing an instruction does breaks the canonical form of memory -/

/-- The canonical form is kept by every store the write contract makes. -/
theorem State.memWrite_mem_wf {s : State} (h : s.mem.wf = true) (x : Word) (v : Byte) :
    (s.memWrite x v).mem.wf = true := by
  refine State.memWrite_cases (P := fun t => t.mem.wf = true) h
    (fun _ => State.store_mem_wf (s := { s with overlay := false }) h _ v) (fun _ => ?_)
    (fun _ => ?_) fun _ _ => State.store_mem_wf h x v
  · unfold State.writeSc
    split
    · exact State.store_mem_wf (State.store_mem_wf (s := { s with serialOut := _ }) h _ _) _ _
    · exact State.store_mem_wf h _ v
  · rw [State.writeDiv_eq]
    exact State.store_mem_wf h _ _

theorem State.applyMoves_mem_wf (ms : List Move) {s : State} (h : s.mem.wf = true) :
    (s.applyMoves ms).mem.wf = true := by
  induction ms generalizing s with
  | nil => exact h
  | cons m ms ih => exact ih (State.applyMove_mem_wf h m)

theorem State.takeMoves_mem_wf {s : State} (h : s.mem.wf = true) : s.takeMoves.mem.wf = true := by
  rw [State.takeMoves_eq]
  exact State.applyMoves_mem_wf (s := { s with moves := s.moves.tail }) _ h

theorem Reaches.mem_wf {l : List Word} {s t : State} (h : Reaches l s t) (hs : s.mem.wf = true) :
    t.mem.wf = true :=
  h.preserves (P := fun u => u.mem.wf = true) (fun _ hu => State.takeMoves_mem_wf hu)
    (fun _ x v _ hu => State.memWrite_mem_wf hu x v) (fun _ _ hu hc => hc.same ▸ hu) hs

/-! ### The push of a dispatch and the request it clears (R307) -/

/-- A push changes cells, makes the moves that fall before its bytes, and stores to the two bytes
below SP. -/
theorem State.push16_reaches (s : State) (v : Word) :
    Reaches [s.sp - 2, s.sp - 1] s (s.push16 v) :=
  Reaches.refl.push16 v List.mem_cons_self (List.mem_cons_of_mem _ List.mem_cons_self)

/-- Clearing with the mask of a source clears its bit and keeps the others. -/
theorem and_not_mask_getLsbD (v : Byte) (n : Source) (i : Nat) :
    (v &&& ~~~ n.mask).getLsbD i = (v.getLsbD i && decide (i ≠ n.number)) := by
  have hn : n.number < 8 := by cases n <;> decide
  have hbit := and_not_bitMask_getLsbD v ⟨n.number, hn⟩ i
  refine hbit.trans ?_
  by_cases hi : i = n.number <;> simp [hi]

/-- What the push of a dispatch leaves: IME and the pending enable are cleared before it. -/
abbrev State.dispatchPush (s : State) : State :=
  State.push16 { s with ime := false, imePending := false } s.pc

/-- After the push a dispatch changes memory and PC alone. -/
theorem State.takeInterrupt_frame_push (s : State) (n : Source) :
    s.takeInterrupt n = { s.dispatchPush with
      mem := (s.takeInterrupt n).mem, pc := s.platform.vector n } := rfl

theorem State.takeInterrupt_live_other (s : State) (n : Source) {x : Word}
    (hx : x ≠ s.platform.addrIf) : (s.takeInterrupt n).live x = s.dispatchPush.live x :=
  State.store_live_other _ _ hx

theorem State.takeInterrupt_live_if {s : State} (h : s.mem.wf = true) (n : Source) :
    (s.takeInterrupt n).live s.platform.addrIf =
      s.dispatchPush.live s.platform.addrIf &&& ~~~ n.mask :=
  State.store_live_same
    ((State.push16_reaches { s with ime := false, imePending := false } s.pc).mem_wf h) _ _

/-! ### The cells and the live bytes after a dispatch (R307, R308) -/

@[simp] theorem State.takeInterrupt_ime (s : State) (n : Source) :
    (s.takeInterrupt n).ime = false := by simp [State.takeInterrupt]
@[simp] theorem State.takeInterrupt_imePending (s : State) (n : Source) :
    (s.takeInterrupt n).imePending = false := by simp [State.takeInterrupt]
@[simp] theorem State.takeInterrupt_sp (s : State) (n : Source) :
    (s.takeInterrupt n).sp = s.sp - 2 := by simp [State.takeInterrupt]
@[simp] theorem State.takeInterrupt_f (s : State) (n : Source) :
    (s.takeInterrupt n).f = s.f := by simp [State.takeInterrupt]
@[simp] theorem State.takeInterrupt_mode (s : State) (n : Source) :
    (s.takeInterrupt n).mode = s.mode := by simp [State.takeInterrupt]
@[simp] theorem State.takeInterrupt_platform (s : State) (n : Source) :
    (s.takeInterrupt n).platform = s.platform := by simp [State.takeInterrupt]
@[simp] theorem State.takeInterrupt_r8 (s : State) (n : Source) (r : Reg8) :
    (s.takeInterrupt n).r8 r = s.r8 r :=
  State.r8_congr (by simp [State.takeInterrupt]) r

/-- With no move scheduled a dispatch reaches no live byte but IF and the two below SP. -/
theorem State.takeInterrupt_live_of_nil {s : State} (hmoves : s.moves = []) (n : Source) {x : Word}
    (hlo : x ≠ s.sp - 2) (hhi : x ≠ s.sp - 1) (hx : x ≠ s.platform.addrIf) :
    (s.takeInterrupt n).live x = s.live x := by
  let u : State := { s with ime := false, imePending := false }
  have hpush : Untouched x u (u.push16 s.pc) :=
    (u.push16_reaches s.pc).untouched (by simpa [u] using ⟨hlo, hhi⟩) (fun e => absurd e hx)
      (.inl hmoves)
  exact (s.takeInterrupt_live_other n hx).trans hpush.live

/-- Settles O45: the cells are those of the push; IF is what the push left with the source's bit
cleared; and on plain bytes the slot holds PC and nothing else is reached. -/
theorem dispatchSequence : Obligations.DispatchSequence := by
  refine ⟨rfl, fun s n hwf => ?_⟩
  intro t p flags
  refine ⟨s.takeInterrupt_frame_push n, s.takeInterrupt_ime n, s.takeInterrupt_imePending n,
    s.takeInterrupt_sp n, s.takeInterrupt_r8 n, s.takeInterrupt_f n, s.takeInterrupt_mode n,
    s.takeInterrupt_platform n, fun i => ?_, fun x hx => s.takeInterrupt_live_other n hx,
    fun hmoves hlo hhi hifLo hifHi => ?_⟩
  · rw [State.takeInterrupt_live_if hwf, and_not_mask_getLsbD]
  · have hslot := State.pushed_takeInterrupt hwf hmoves hlo hhi hifLo hifHi n
    exact ⟨hslot.liveLo, hslot.liveHi,
      fun x hxLo hxHi hx => State.takeInterrupt_live_of_nil hmoves n hxLo hxHi hx⟩

end Sys2Proof.Machine
end
